-- ==== Sys2Proof/Word.lean ====
section
/-! DEFINITION. The words of the machine: bytes, 64-bit register slots and register numbers.
A register is stored in a 64-bit slot whatever XLEN is; with XLEN = 32 its low 32 bits are the register
(notes/assumptions/14.md). -/

namespace Sys2Proof

/-- One byte of memory (20_memory.md R105). -/
abbrev Byte := BitVec 8

/-- A 64-bit storage slot: an integer register, the pc, an FP register (10_state.md R41, R47, R52). -/
abbrev Word := BitVec 64

/-- A 5-bit register field (30_encoding.md R152). -/
abbrev Reg := BitVec 5

/-- A 3-bit compressed register field (30_encoding.md R186). -/
abbrev CReg := BitVec 3

end Sys2Proof
end

