-- ==== Sys2Proof/Config.lean ====
section
/-! DEFINITION. What is fixed for a hart (the parameters of 00_scope.md R17), the data of the outside agents,
and the free values: opaque constants with no body, for every answer the spec leaves to an outside agent. -/

namespace Sys2Proof

/-- The integer width XLEN (10_state.md R65). -/
inductive XLen where
  | rv32
  | rv64
  deriving DecidableEq, Repr, Inhabited

/-- XLEN in bits. -/
def XLen.bits : XLen → Nat
  | .rv32 => 32
  | .rv64 => 64

/-- The parameter MISALIGNED_LS (20_memory.md R108). -/
inductive MisalignedPolicy where
  | emulate
  | trap
  deriving DecidableEq, Repr, Inhabited

/-- Which external CSR/trap unit the hart is wired to: the standard RISC-V unit of 60_exceptions.md R812 to R816,
or one of which nothing is assumed (93_implementation_defined.md items 16 to 19; notes/assumptions/7.md). -/
inductive UnitKind where
  | standard
  | unspecified
  deriving DecidableEq, Repr, Inhabited

/-- The parameters of 00_scope.md R17. The reservation granule is 2^(3 + resvLog) bytes, so 8 to 4096. -/
structure Config where
  xlen       : XLen
  fpPresent  : Bool
  cEn        : Bool
  mEn        : Bool
  aEn        : Bool
  fEn        : Bool
  dEn        : Bool
  resetPc    : Word
  resvLog    : Fin 10
  scMayFail  : Bool
  misaligned : MisalignedPolicy
  unitKind   : UnitKind
  deriving DecidableEq, Repr, Inhabited

/-- F instructions are enabled (10_state.md R64, 47_fp_common.md R610). -/
def Config.fOn (c : Config) : Bool := c.fpPresent && c.fEn

/-- D instructions are enabled: D takes effect only with F (10_state.md R64). -/
def Config.dOn (c : Config) : Bool := c.fOn && c.dEn

/-- RESV_GRANULE in bytes (46_atomic.md R571). -/
def Config.resvGranule (c : Config) : Nat := 2 ^ (3 + c.resvLog.val)

/-- IALIGN / 8, the instruction alignment in bytes (10_state.md R49). -/
def Config.instrAlign (c : Config) : Nat := if c.cEn then 2 else 4

/-- The enable condition a row of the opcode table names in its `ext` entry (30_encoding.md R177, R179). -/
inductive Ext where
  | base
  | m
  | a
  | f
  | d
  | c
  | cf
  | cd
  deriving DecidableEq, Repr

/-- Every enable flag the row names is true. -/
def Config.extOn (c : Config) : Ext → Bool
  | .base => true
  | .m => c.mEn
  | .a => c.aEn
  | .f => c.fOn
  | .d => c.dOn
  | .c => c.cEn
  | .cf => c.cEn && c.fOn
  | .cd => c.cEn && c.dOn

/-- The configuration of the hart that `State.reset` creates: DESIGN CHOICE, every value is an OPEN parameter of
00_scope.md R17 (notes/assumptions/1.md and 2.md). -/
def Config.atReset : Config where
  xlen := .rv64
  fpPresent := true
  cEn := true
  mEn := true
  aEn := true
  fEn := true
  dEn := true
  resetPc := 0x1000#64
  resvLog := 3
  scMayFail := false
  misaligned := .emulate
  unitKind := .standard

/-- The floating-point status field, 2 bits (10_state.md R55). -/
inductive FS where
  | off
  | initial
  | clean
  | dirty
  deriving DecidableEq, Repr, Inhabited

/-- The encoding of FS at mstatus[14:13] (10_state.md R55). -/
def FS.code : FS → BitVec 2
  | .off => 0
  | .initial => 1
  | .clean => 2
  | .dirty => 3

/-- The FS a 2-bit code names. -/
def FS.ofCode (v : BitVec 2) : FS :=
  if v = 0 then .off else if v = 1 then .initial else if v = 2 then .clean else .dirty

/-- The privilege mode CurrentPriv() answers (60_exceptions.md R818). -/
inductive Priv where
  | user
  | supervisor
  | machine
  deriving DecidableEq, Repr, Inhabited

/-- The 2-bit code of a mode, as mstatus.MPP and csr[9:8] hold it (PRESUMED layout, notes/assumptions/6.md). -/
def Priv.code : Priv → BitVec 2
  | .user => 0
  | .supervisor => 1
  | .machine => 3

/-- The state of the external CSR/trap unit that 60_exceptions.md R812 to R816 and 43_system.md R431 to R434 name.
The words hold XLEN bits. The `mie` and `mip` CSRs are named `ie` and `ip` here, beside the mstatus bit `mie`. -/
structure TrapUnit where
  priv    : Priv
  sie     : Bool
  mie     : Bool
  spie    : Bool
  mpie    : Bool
  spp     : Bool
  mpp     : Priv
  mprv    : Bool
  sum     : Bool
  mxr     : Bool
  tvm     : Bool
  tw      : Bool
  tsr     : Bool
  mtvec   : Word
  mepc    : Word
  mcause  : Word
  mtval   : Word
  medeleg : Word
  mideleg : Word
  ie      : Word
  ip      : Word
  stvec   : Word
  sepc    : Word
  scause  : Word
  stval   : Word
  deriving DecidableEq, Repr, Inhabited

/-- The unit at hart creation: M-mode with mstatus.MIE = 0 (70_reset_and_hazards.md R851), every other register at
the family's 0 (PRESUMED, notes/assumptions/6.md). -/
def TrapUnit.atReset : TrapUnit where
  priv := .machine
  sie := false
  mie := false
  spie := false
  mpie := false
  spp := false
  mpp := .user
  mprv := false
  sum := false
  mxr := false
  tvm := false
  tw := false
  tsr := false
  mtvec := 0
  mepc := 0
  mcause := 0
  mtval := 0
  medeleg := 0
  mideleg := 0
  ie := 0
  ip := 0
  stvec := 0
  sepc := 0
  scause := 0
  stval := 0

/-- The kind a failing memory-port operation carries (20_memory.md R103). -/
inductive PortFault where
  | access
  | page
  deriving DecidableEq, Repr, Inhabited

/-- How the memory system answers one kind of access to one region (20_memory.md R102, R103). -/
inductive Verdict where
  | ram
  | device
  | fail (k : PortFault)
  deriving DecidableEq, Repr, Inhabited

/-- A region of the external memory map: `size` bytes from `base`. -/
structure Region where
  base  : Nat
  size  : Nat
  fetch : Verdict
  read  : Verdict
  write : Verdict
  deriving DecidableEq, Repr, Inhabited

/-- What PrivOp answers (00_scope.md R14). -/
inductive PrivAnswer where
  | proceed
  | redirect (target : Word)
  | illegal
  deriving DecidableEq, Repr, Inhabited

/-! Free values. Each is applied to the counter `draws` of State, so every step draws afresh. -/

/-- The byte a device answers to a data read: any value (93_implementation_defined.md item 20). -/
opaque Config.deviceByte : (draw address : Nat) → Byte

/-- The byte a device answers to an instruction fetch: any value (item 20). -/
opaque Config.fetchByte : (draw address : Nat) → Byte

/-- The draw that makes an SC fail although its reservation matches (46_atomic.md R573, item 9). -/
opaque Config.scFails : (draw : Nat) → Bool

/-- The answer of CsrAccess for a CSR only the external unit knows: `none` is illegal, `some old` is ok(old)
(43_system.md R424, item 16). -/
opaque Config.csrAnswer : (draw : Nat) → (csr : BitVec 12) → Option Word

/-- An unspecified unit's answer to PrivOp (item 17). -/
opaque Config.privAnswer : (draw : Nat) → PrivAnswer

/-- The pc an unspecified unit sets after Trap (item 19). -/
opaque Config.trapPc : (draw : Nat) → Word

/-- The state an unspecified unit is in after any call made on it (items 16 to 19). -/
opaque Config.unitAfter : (draw : Nat) → TrapUnit

/-- FS after an unspecified unit has served CsrAccess or PrivOp, or has taken an interrupt (item 13). -/
opaque Config.fsAfter : (draw : Nat) → FS

/-- The memory map after any call on an unspecified unit, or an interrupt it took (20_memory.md R126, item 20). -/
opaque Config.mapAfter : (draw : Nat) → List Region

end Sys2Proof
end

