-- ==== Sys2Proof/Syntax.lean ====
section
/-! DEFINITION. The instructions: one constructor for each of the 202 rows of spec/opcode_table.json.
Operands are the fields of the encoding. An immediate is kept without the low bits that its format forces to zero
and before its extension: `imm` of LUI is imm[31:12], `off` of a branch is off[12:1], `uimm` of C.LW is uimm[6:2]
(30_encoding.md R164 to R199). Register fields of 3 bits name register field + 8 (R186). -/

namespace Sys2Proof

/-- The instructions of the block, in the order of the opcode table. -/
inductive Instr where
  -- 40_base_integer.md R303, R304
  | lui (rd : Reg) (imm : BitVec 20)
  | auipc (rd : Reg) (imm : BitVec 20)
  -- 41_control_transfer.md
  | jal (rd : Reg) (off : BitVec 20)
  | jalr (rd rs1 : Reg) (imm : BitVec 12)
  | beq (rs1 rs2 : Reg) (off : BitVec 12)
  | bne (rs1 rs2 : Reg) (off : BitVec 12)
  | blt (rs1 rs2 : Reg) (off : BitVec 12)
  | bge (rs1 rs2 : Reg) (off : BitVec 12)
  | bltu (rs1 rs2 : Reg) (off : BitVec 12)
  | bgeu (rs1 rs2 : Reg) (off : BitVec 12)
  -- 42_load_store.md
  | lb (rd rs1 : Reg) (imm : BitVec 12)
  | lh (rd rs1 : Reg) (imm : BitVec 12)
  | lw (rd rs1 : Reg) (imm : BitVec 12)
  | ld (rd rs1 : Reg) (imm : BitVec 12)
  | lbu (rd rs1 : Reg) (imm : BitVec 12)
  | lhu (rd rs1 : Reg) (imm : BitVec 12)
  | lwu (rd rs1 : Reg) (imm : BitVec 12)
  | sb (rs1 rs2 : Reg) (imm : BitVec 12)
  | sh (rs1 rs2 : Reg) (imm : BitVec 12)
  | sw (rs1 rs2 : Reg) (imm : BitVec 12)
  | sd (rs1 rs2 : Reg) (imm : BitVec 12)
  -- 40_base_integer.md
  | addi (rd rs1 : Reg) (imm : BitVec 12)
  | slti (rd rs1 : Reg) (imm : BitVec 12)
  | sltiu (rd rs1 : Reg) (imm : BitVec 12)
  | xori (rd rs1 : Reg) (imm : BitVec 12)
  | ori (rd rs1 : Reg) (imm : BitVec 12)
  | andi (rd rs1 : Reg) (imm : BitVec 12)
  | slli (rd rs1 : Reg) (shamt : BitVec 6)
  | srli (rd rs1 : Reg) (shamt : BitVec 6)
  | srai (rd rs1 : Reg) (shamt : BitVec 6)
  | add (rd rs1 rs2 : Reg)
  | sub (rd rs1 rs2 : Reg)
  | sll (rd rs1 rs2 : Reg)
  | slt (rd rs1 rs2 : Reg)
  | sltu (rd rs1 rs2 : Reg)
  | xor (rd rs1 rs2 : Reg)
  | srl (rd rs1 rs2 : Reg)
  | sra (rd rs1 rs2 : Reg)
  | or (rd rs1 rs2 : Reg)
  | and (rd rs1 rs2 : Reg)
  -- 40_base_integer.md, XLEN = 64 only
  | addiw (rd rs1 : Reg) (imm : BitVec 12)
  | slliw (rd rs1 : Reg) (shamt : BitVec 5)
  | srliw (rd rs1 : Reg) (shamt : BitVec 5)
  | sraiw (rd rs1 : Reg) (shamt : BitVec 5)
  | addw (rd rs1 rs2 : Reg)
  | subw (rd rs1 rs2 : Reg)
  | sllw (rd rs1 rs2 : Reg)
  | srlw (rd rs1 rs2 : Reg)
  | sraw (rd rs1 rs2 : Reg)
  -- 43_system.md
  | fence (fm pred succ : BitVec 4) (rs1 rd : Reg)
  | fenceI (imm : BitVec 12) (rs1 rd : Reg)
  | ecall
  | ebreak
  | csrrw (rd : Reg) (csr : BitVec 12) (rs1 : Reg)
  | csrrs (rd : Reg) (csr : BitVec 12) (rs1 : Reg)
  | csrrc (rd : Reg) (csr : BitVec 12) (rs1 : Reg)
  | csrrwi (rd : Reg) (csr : BitVec 12) (uimm : BitVec 5)
  | csrrsi (rd : Reg) (csr : BitVec 12) (uimm : BitVec 5)
  | csrrci (rd : Reg) (csr : BitVec 12) (uimm : BitVec 5)
  | sret
  | mret
  | wfi
  | sfenceVma (rs1 rs2 : Reg)
  -- 45_muldiv.md
  | mul (rd rs1 rs2 : Reg)
  | mulh (rd rs1 rs2 : Reg)
  | mulhsu (rd rs1 rs2 : Reg)
  | mulhu (rd rs1 rs2 : Reg)
  | div (rd rs1 rs2 : Reg)
  | divu (rd rs1 rs2 : Reg)
  | rem (rd rs1 rs2 : Reg)
  | remu (rd rs1 rs2 : Reg)
  | mulw (rd rs1 rs2 : Reg)
  | divw (rd rs1 rs2 : Reg)
  | divuw (rd rs1 rs2 : Reg)
  | remw (rd rs1 rs2 : Reg)
  | remuw (rd rs1 rs2 : Reg)
  -- 46_atomic.md
  | lrW (rd rs1 : Reg) (aq rl : Bool)
  | scW (rd rs1 rs2 : Reg) (aq rl : Bool)
  | amoaddW (rd rs1 rs2 : Reg) (aq rl : Bool)
  | amoswapW (rd rs1 rs2 : Reg) (aq rl : Bool)
  | amoxorW (rd rs1 rs2 : Reg) (aq rl : Bool)
  | amoorW (rd rs1 rs2 : Reg) (aq rl : Bool)
  | amoandW (rd rs1 rs2 : Reg) (aq rl : Bool)
  | amominW (rd rs1 rs2 : Reg) (aq rl : Bool)
  | amomaxW (rd rs1 rs2 : Reg) (aq rl : Bool)
  | amominuW (rd rs1 rs2 : Reg) (aq rl : Bool)
  | amomaxuW (rd rs1 rs2 : Reg) (aq rl : Bool)
  | lrD (rd rs1 : Reg) (aq rl : Bool)
  | scD (rd rs1 rs2 : Reg) (aq rl : Bool)
  | amoaddD (rd rs1 rs2 : Reg) (aq rl : Bool)
  | amoswapD (rd rs1 rs2 : Reg) (aq rl : Bool)
  | amoxorD (rd rs1 rs2 : Reg) (aq rl : Bool)
  | amoorD (rd rs1 rs2 : Reg) (aq rl : Bool)
  | amoandD (rd rs1 rs2 : Reg) (aq rl : Bool)
  | amominD (rd rs1 rs2 : Reg) (aq rl : Bool)
  | amomaxD (rd rs1 rs2 : Reg) (aq rl : Bool)
  | amominuD (rd rs1 rs2 : Reg) (aq rl : Bool)
  | amomaxuD (rd rs1 rs2 : Reg) (aq rl : Bool)
  -- 48_fp_single.md
  | flw (rd rs1 : Reg) (imm : BitVec 12)
  | fsw (rs1 rs2 : Reg) (imm : BitVec 12)
  | fmaddS (rd rs1 rs2 rs3 : Reg) (rm : BitVec 3)
  | fmsubS (rd rs1 rs2 rs3 : Reg) (rm : BitVec 3)
  | fnmsubS (rd rs1 rs2 rs3 : Reg) (rm : BitVec 3)
  | fnmaddS (rd rs1 rs2 rs3 : Reg) (rm : BitVec 3)
  | faddS (rd rs1 rs2 : Reg) (rm : BitVec 3)
  | fsubS (rd rs1 rs2 : Reg) (rm : BitVec 3)
  | fmulS (rd rs1 rs2 : Reg) (rm : BitVec 3)
  | fdivS (rd rs1 rs2 : Reg) (rm : BitVec 3)
  | fsqrtS (rd rs1 : Reg) (rm : BitVec 3)
  | fsgnjS (rd rs1 rs2 : Reg)
  | fsgnjnS (rd rs1 rs2 : Reg)
  | fsgnjxS (rd rs1 rs2 : Reg)
  | fminS (rd rs1 rs2 : Reg)
  | fmaxS (rd rs1 rs2 : Reg)
  | feqS (rd rs1 rs2 : Reg)
  | fltS (rd rs1 rs2 : Reg)
  | fleS (rd rs1 rs2 : Reg)
  | fclassS (rd rs1 : Reg)
  | fcvtWS (rd rs1 : Reg) (rm : BitVec 3)
  | fcvtSW (rd rs1 : Reg) (rm : BitVec 3)
  | fcvtWuS (rd rs1 : Reg) (rm : BitVec 3)
  | fcvtSWu (rd rs1 : Reg) (rm : BitVec 3)
  | fcvtLS (rd rs1 : Reg) (rm : BitVec 3)
  | fcvtSL (rd rs1 : Reg) (rm : BitVec 3)
  | fcvtLuS (rd rs1 : Reg) (rm : BitVec 3)
  | fcvtSLu (rd rs1 : Reg) (rm : BitVec 3)
  | fmvXW (rd rs1 : Reg)
  | fmvWX (rd rs1 : Reg)
  -- 49_fp_double.md
  | fld (rd rs1 : Reg) (imm : BitVec 12)
  | fsd (rs1 rs2 : Reg) (imm : BitVec 12)
  | fmaddD (rd rs1 rs2 rs3 : Reg) (rm : BitVec 3)
  | fmsubD (rd rs1 rs2 rs3 : Reg) (rm : BitVec 3)
  | fnmsubD (rd rs1 rs2 rs3 : Reg) (rm : BitVec 3)
  | fnmaddD (rd rs1 rs2 rs3 : Reg) (rm : BitVec 3)
  | faddD (rd rs1 rs2 : Reg) (rm : BitVec 3)
  | fsubD (rd rs1 rs2 : Reg) (rm : BitVec 3)
  | fmulD (rd rs1 rs2 : Reg) (rm : BitVec 3)
  | fdivD (rd rs1 rs2 : Reg) (rm : BitVec 3)
  | fsqrtD (rd rs1 : Reg) (rm : BitVec 3)
  | fsgnjD (rd rs1 rs2 : Reg)
  | fsgnjnD (rd rs1 rs2 : Reg)
  | fsgnjxD (rd rs1 rs2 : Reg)
  | fminD (rd rs1 rs2 : Reg)
  | fmaxD (rd rs1 rs2 : Reg)
  | feqD (rd rs1 rs2 : Reg)
  | fltD (rd rs1 rs2 : Reg)
  | fleD (rd rs1 rs2 : Reg)
  | fclassD (rd rs1 : Reg)
  | fcvtWD (rd rs1 : Reg) (rm : BitVec 3)
  | fcvtDW (rd rs1 : Reg) (rm : BitVec 3)
  | fcvtWuD (rd rs1 : Reg) (rm : BitVec 3)
  | fcvtDWu (rd rs1 : Reg) (rm : BitVec 3)
  | fcvtLD (rd rs1 : Reg) (rm : BitVec 3)
  | fcvtDL (rd rs1 : Reg) (rm : BitVec 3)
  | fcvtLuD (rd rs1 : Reg) (rm : BitVec 3)
  | fcvtDLu (rd rs1 : Reg) (rm : BitVec 3)
  | fcvtSD (rd rs1 : Reg) (rm : BitVec 3)
  | fcvtDS (rd rs1 : Reg) (rm : BitVec 3)
  | fmvXD (rd rs1 : Reg)
  | fmvDX (rd rs1 : Reg)
  -- 44_compressed.md
  | cAddi4spn (rd : CReg) (imm : BitVec 8)
  | cFld (rd rs1 : CReg) (uimm : BitVec 5)
  | cLw (rd rs1 : CReg) (uimm : BitVec 5)
  | cFlw (rd rs1 : CReg) (uimm : BitVec 5)
  | cLd (rd rs1 : CReg) (uimm : BitVec 5)
  | cFsd (rs1 rs2 : CReg) (uimm : BitVec 5)
  | cSw (rs1 rs2 : CReg) (uimm : BitVec 5)
  | cFsw (rs1 rs2 : CReg) (uimm : BitVec 5)
  | cSd (rs1 rs2 : CReg) (uimm : BitVec 5)
  | cNop (imm : BitVec 6)
  | cAddi (rd : Reg) (imm : BitVec 6)
  | cJal (off : BitVec 11)
  | cAddiw (rd : Reg) (imm : BitVec 6)
  | cLi (rd : Reg) (imm : BitVec 6)
  | cAddi16sp (imm : BitVec 6)
  | cLui (rd : Reg) (imm : BitVec 6)
  | cSrli (rd : CReg) (shamt : BitVec 6)
  | cSrai (rd : CReg) (shamt : BitVec 6)
  | cAndi (rd : CReg) (imm : BitVec 6)
  | cSub (rd rs2 : CReg)
  | cXor (rd rs2 : CReg)
  | cOr (rd rs2 : CReg)
  | cAnd (rd rs2 : CReg)
  | cSubw (rd rs2 : CReg)
  | cAddw (rd rs2 : CReg)
  | cJ (off : BitVec 11)
  | cBeqz (rs1 : CReg) (off : BitVec 8)
  | cBnez (rs1 : CReg) (off : BitVec 8)
  | cSlli (rd : Reg) (shamt : BitVec 6)
  | cFldsp (rd : Reg) (uimm : BitVec 6)
  | cLwsp (rd : Reg) (uimm : BitVec 6)
  | cFlwsp (rd : Reg) (uimm : BitVec 6)
  | cLdsp (rd : Reg) (uimm : BitVec 6)
  | cJr (rs1 : Reg)
  | cMv (rd rs2 : Reg)
  | cEbreak
  | cJalr (rs1 : Reg)
  | cAdd (rd rs2 : Reg)
  | cFsdsp (rs2 : Reg) (uimm : BitVec 6)
  | cSwsp (rs2 : Reg) (uimm : BitVec 6)
  | cFswsp (rs2 : Reg) (uimm : BitVec 6)
  | cSdsp (rs2 : Reg) (uimm : BitVec 6)
  deriving DecidableEq, Repr

/-- What a row of the opcode table fixes: the bits of `match` under `mask`, the XLEN values it exists at (`none` is
both) and the enable flags it needs. -/
structure Row where
  mask   : BitVec 32
  match_ : BitVec 32
  xlen   : Option XLen
  ext    : Ext
  deriving DecidableEq, Repr

/-- An encoded instruction: a 16-bit parcel or a 32-bit word (30_encoding.md R150). -/
inductive Enc where
  | half (h : BitVec 16)
  | full (w : BitVec 32)
  deriving DecidableEq, Repr

/-- The instruction bits, zero-extended to 32 (60_exceptions.md R802). -/
def Enc.bits : Enc → BitVec 32
  | .half h => h.setWidth 32
  | .full w => w

/-- The length in bytes (10_state.md R48). -/
def Enc.len : Enc → Nat
  | .half _ => 2
  | .full _ => 4

end Sys2Proof
end

