-- ==== Sys2Proof/WellFormed.lean ====
section
/-! DEFINITION. Well-formed instructions: the operand constraints of the opcode table that hold at every XLEN.
Every other bound on an operand is the width of its field. -/

namespace Sys2Proof

/-- The `constraints` entries of spec/opcode_table.json on operands (30_encoding.md R206 item 7). The constraints
that depend on XLEN are in `Instr.enabled`. -/
def Instr.wf : Instr → Bool
  | .cAddi4spn _ imm => imm != 0
  | .cAddi rd _ => rd != 0
  | .cAddiw rd _ => rd != 0
  | .cAddi16sp imm => imm != 0
  | .cLui rd imm => rd != 2 && imm != 0
  | .cLwsp rd _ => rd != 0
  | .cLdsp rd _ => rd != 0
  | .cJr rs1 => rs1 != 0
  | .cJalr rs1 => rs1 != 0
  | .cMv _ rs2 => rs2 != 0
  | .cAdd _ rs2 => rs2 != 0
  | _ => true

end Sys2Proof
end

