-- ==== Sys2Proof/Decode.lean ====
section
/-! DEFINITION. The decoder, the opcode tables it uses and the encoder (30_encoding.md). The decoder has the two levels
of the spec: an identifier selects a slot of a 512-slot or 32-slot table (R170 to R177), and the handler in the slot
decodes every bit the identifier does not hold (R178). It is total and rejects by name. -/

namespace Sys2Proof

/-- Why a word or parcel is no instruction; the machine raises IllegalInstruction for the first two
(60_exceptions.md R807 a, b, c), and `truncated` is a byte list too short to hold an instruction. -/
inductive Reject where
  | illegalSlot
  | reserved
  | truncated
  deriving DecidableEq, Repr

/-! ## Fields of a 32-bit word (R152 to R169) -/

def fRd (w : BitVec 32) : Reg := w.extractLsb' 7 5
def fRs1 (w : BitVec 32) : Reg := w.extractLsb' 15 5
def fRs2 (w : BitVec 32) : Reg := w.extractLsb' 20 5
def fRs3 (w : BitVec 32) : Reg := w.extractLsb' 27 5
def fF3 (w : BitVec 32) : BitVec 3 := w.extractLsb' 12 3
def fF7 (w : BitVec 32) : BitVec 7 := w.extractLsb' 25 7
def fF6 (w : BitVec 32) : BitVec 6 := w.extractLsb' 26 6
def fF5 (w : BitVec 32) : BitVec 5 := w.extractLsb' 27 5
def fFmt (w : BitVec 32) : BitVec 2 := w.extractLsb' 25 2
def fAq (w : BitVec 32) : Bool := w.getLsbD 26
def fRl (w : BitVec 32) : Bool := w.getLsbD 25
def fShamt6 (w : BitVec 32) : BitVec 6 := w.extractLsb' 20 6
def fImmI (w : BitVec 32) : BitVec 12 := w.extractLsb' 20 12
def fImmS (w : BitVec 32) : BitVec 12 := w.extractLsb' 25 7 ++ w.extractLsb' 7 5
def fOffB (w : BitVec 32) : BitVec 12 :=
  w.extractLsb' 31 1 ++ w.extractLsb' 7 1 ++ w.extractLsb' 25 6 ++ w.extractLsb' 8 4
def fImmU (w : BitVec 32) : BitVec 20 := w.extractLsb' 12 20
def fOffJ (w : BitVec 32) : BitVec 20 :=
  w.extractLsb' 31 1 ++ w.extractLsb' 12 8 ++ w.extractLsb' 20 1 ++ w.extractLsb' 21 10

/-! ## Fields of a 16-bit parcel (R185 to R199) -/

def cRd (h : BitVec 16) : Reg := h.extractLsb' 7 5
def cRs2 (h : BitVec 16) : Reg := h.extractLsb' 2 5
def cRd' (h : BitVec 16) : CReg := h.extractLsb' 2 3
def cRs1' (h : BitVec 16) : CReg := h.extractLsb' 7 3
def cImm4spn (h : BitVec 16) : BitVec 8 :=
  h.extractLsb' 7 4 ++ h.extractLsb' 11 2 ++ h.extractLsb' 5 1 ++ h.extractLsb' 6 1
def cOffW (h : BitVec 16) : BitVec 5 := h.extractLsb' 5 1 ++ h.extractLsb' 10 3 ++ h.extractLsb' 6 1
def cOffD (h : BitVec 16) : BitVec 5 := h.extractLsb' 5 2 ++ h.extractLsb' 10 3
def cImm6 (h : BitVec 16) : BitVec 6 := h.extractLsb' 12 1 ++ h.extractLsb' 2 5
def cImm16sp (h : BitVec 16) : BitVec 6 :=
  h.extractLsb' 12 1 ++ h.extractLsb' 3 2 ++ h.extractLsb' 5 1 ++ h.extractLsb' 2 1 ++ h.extractLsb' 6 1
def cOffJ (h : BitVec 16) : BitVec 11 :=
  h.extractLsb' 12 1 ++ h.extractLsb' 8 1 ++ h.extractLsb' 9 2 ++ h.extractLsb' 6 1 ++ h.extractLsb' 7 1 ++
    h.extractLsb' 2 1 ++ h.extractLsb' 11 1 ++ h.extractLsb' 3 3
def cOffB (h : BitVec 16) : BitVec 8 :=
  h.extractLsb' 12 1 ++ h.extractLsb' 5 2 ++ h.extractLsb' 2 1 ++ h.extractLsb' 10 2 ++ h.extractLsb' 3 2
def cOffLwsp (h : BitVec 16) : BitVec 6 := h.extractLsb' 2 2 ++ h.extractLsb' 12 1 ++ h.extractLsb' 4 3
def cOffLdsp (h : BitVec 16) : BitVec 6 := h.extractLsb' 2 3 ++ h.extractLsb' 12 1 ++ h.extractLsb' 5 2
def cOffSwsp (h : BitVec 16) : BitVec 6 := h.extractLsb' 7 2 ++ h.extractLsb' 9 4
def cOffSdsp (h : BitVec 16) : BitVec 6 := h.extractLsb' 7 3 ++ h.extractLsb' 10 3

/-! ## Identifiers (R170, R171) -/

/-- `{inst[25], inst[14:12], inst[6:2]}`. -/
def id32 (w : BitVec 32) : BitVec 9 := w.extractLsb' 25 1 ++ w.extractLsb' 12 3 ++ w.extractLsb' 2 5

/-- `{h[15:13], h[1:0]}`. -/
def id16 (h : BitVec 16) : BitVec 5 := h.extractLsb' 13 3 ++ h.extractLsb' 0 2

/-- The parcel starts a 32-bit instruction (R150). -/
def isFull (h : BitVec 16) : Bool := h.extractLsb' 0 2 == 3

/-! ## Handlers and their sub-decode (R178) -/

/-- What a slot of FTABLE holds: a cell of the slot map of R175. -/
inductive FullHandler where
  | illegal
  | lb | lh | lw | ld | lbu | lhu | lwu | flw | fld | fence | fenceI
  | addi | slli | slti | sltiu | xori | srxi | ori | andi | auipc | addiw | slliw | srxiw
  | sb | sh | sw | sd | fsw | fsd | amoW | amoD
  | addSub | sll | slt | sltu | xor | srx | or | and
  | mul | mulh | mulhsu | mulhu | div | divu | rem | remu
  | lui | addSubW | sllw | srxw | mulw | divw | divuw | remw | remuw
  | fmaddS | fmaddD | fmsubS | fmsubD | fnmsubS | fnmsubD | fnmaddS | fnmaddD | opFpS | opFpD
  | beq | bne | blt | bge | bltu | bgeu | jalr | jal
  | priv | csrrw | csrrs | csrrc | csrrwi | csrrsi | csrrci
  deriving DecidableEq, Repr

/-- What a slot of CTABLE holds: a cell of the slot map of R176. -/
inductive HalfHandler where
  | illegal
  | addi4spn | fld | lw | flw | ld | fsd | sw | fsw | sd
  | nopAddi | jal | addiw | li | addi16spLui | alu | j | beqz | bnez
  | slli | fldsp | lwsp | flwsp | ldsp | jrMvAdd | fsdsp | swsp | fswsp | sdsp
  deriving DecidableEq, Repr

/-- The word is the instruction if its remaining bits are as the row has them, else reserved (R206). -/
def accept (ok : Bool) (i : Instr) : Except Reject Instr := if ok then .ok i else .error .reserved

/-- The AMO slots (R160, R206 item 4). -/
def decodeAmoW (w : BitVec 32) : Except Reject Instr :=
  let f := fF5 w
  if f = 0b00010 then accept (fRs2 w == 0) (.lrW (fRd w) (fRs1 w) (fAq w) (fRl w))
  else if f = 0b00011 then .ok (.scW (fRd w) (fRs1 w) (fRs2 w) (fAq w) (fRl w))
  else if f = 0b00000 then .ok (.amoaddW (fRd w) (fRs1 w) (fRs2 w) (fAq w) (fRl w))
  else if f = 0b00001 then .ok (.amoswapW (fRd w) (fRs1 w) (fRs2 w) (fAq w) (fRl w))
  else if f = 0b00100 then .ok (.amoxorW (fRd w) (fRs1 w) (fRs2 w) (fAq w) (fRl w))
  else if f = 0b01000 then .ok (.amoorW (fRd w) (fRs1 w) (fRs2 w) (fAq w) (fRl w))
  else if f = 0b01100 then .ok (.amoandW (fRd w) (fRs1 w) (fRs2 w) (fAq w) (fRl w))
  else if f = 0b10000 then .ok (.amominW (fRd w) (fRs1 w) (fRs2 w) (fAq w) (fRl w))
  else if f = 0b10100 then .ok (.amomaxW (fRd w) (fRs1 w) (fRs2 w) (fAq w) (fRl w))
  else if f = 0b11000 then .ok (.amominuW (fRd w) (fRs1 w) (fRs2 w) (fAq w) (fRl w))
  else if f = 0b11100 then .ok (.amomaxuW (fRd w) (fRs1 w) (fRs2 w) (fAq w) (fRl w))
  else .error .reserved

def decodeAmoD (w : BitVec 32) : Except Reject Instr :=
  let f := fF5 w
  if f = 0b00010 then accept (fRs2 w == 0) (.lrD (fRd w) (fRs1 w) (fAq w) (fRl w))
  else if f = 0b00011 then .ok (.scD (fRd w) (fRs1 w) (fRs2 w) (fAq w) (fRl w))
  else if f = 0b00000 then .ok (.amoaddD (fRd w) (fRs1 w) (fRs2 w) (fAq w) (fRl w))
  else if f = 0b00001 then .ok (.amoswapD (fRd w) (fRs1 w) (fRs2 w) (fAq w) (fRl w))
  else if f = 0b00100 then .ok (.amoxorD (fRd w) (fRs1 w) (fRs2 w) (fAq w) (fRl w))
  else if f = 0b01000 then .ok (.amoorD (fRd w) (fRs1 w) (fRs2 w) (fAq w) (fRl w))
  else if f = 0b01100 then .ok (.amoandD (fRd w) (fRs1 w) (fRs2 w) (fAq w) (fRl w))
  else if f = 0b10000 then .ok (.amominD (fRd w) (fRs1 w) (fRs2 w) (fAq w) (fRl w))
  else if f = 0b10100 then .ok (.amomaxD (fRd w) (fRs1 w) (fRs2 w) (fAq w) (fRl w))
  else if f = 0b11000 then .ok (.amominuD (fRd w) (fRs1 w) (fRs2 w) (fAq w) (fRl w))
  else if f = 0b11100 then .ok (.amomaxuD (fRd w) (fRs1 w) (fRs2 w) (fAq w) (fRl w))
  else .error .reserved

/-- The single-precision OP-FP slots: fmt = 00 (R163, R206 item 5). FCVT.S.D stands here and checks D_EN itself
(49_fp_double.md R736). -/
def decodeOpFpS (cfg : Config) (w : BitVec 32) : Except Reject Instr :=
  let f := fF5 w
  let x64 := cfg.xlen == .rv64
  if fFmt w ≠ 0b00 then .error .reserved
  else if f = 0b00000 then .ok (.faddS (fRd w) (fRs1 w) (fRs2 w) (fF3 w))
  else if f = 0b00001 then .ok (.fsubS (fRd w) (fRs1 w) (fRs2 w) (fF3 w))
  else if f = 0b00010 then .ok (.fmulS (fRd w) (fRs1 w) (fRs2 w) (fF3 w))
  else if f = 0b00011 then .ok (.fdivS (fRd w) (fRs1 w) (fRs2 w) (fF3 w))
  else if f = 0b01011 then accept (fRs2 w == 0) (.fsqrtS (fRd w) (fRs1 w) (fF3 w))
  else if f = 0b00100 then
    if fF3 w = 0 then .ok (.fsgnjS (fRd w) (fRs1 w) (fRs2 w))
    else if fF3 w = 1 then .ok (.fsgnjnS (fRd w) (fRs1 w) (fRs2 w))
    else accept (fF3 w == 2) (.fsgnjxS (fRd w) (fRs1 w) (fRs2 w))
  else if f = 0b00101 then
    if fF3 w = 0 then .ok (.fminS (fRd w) (fRs1 w) (fRs2 w))
    else accept (fF3 w == 1) (.fmaxS (fRd w) (fRs1 w) (fRs2 w))
  else if f = 0b10100 then
    if fF3 w = 2 then .ok (.feqS (fRd w) (fRs1 w) (fRs2 w))
    else if fF3 w = 1 then .ok (.fltS (fRd w) (fRs1 w) (fRs2 w))
    else accept (fF3 w == 0) (.fleS (fRd w) (fRs1 w) (fRs2 w))
  else if f = 0b11000 then
    if fRs2 w = 0 then .ok (.fcvtWS (fRd w) (fRs1 w) (fF3 w))
    else if fRs2 w = 1 then .ok (.fcvtWuS (fRd w) (fRs1 w) (fF3 w))
    else if fRs2 w = 2 then accept x64 (.fcvtLS (fRd w) (fRs1 w) (fF3 w))
    else accept (fRs2 w == 3 && x64) (.fcvtLuS (fRd w) (fRs1 w) (fF3 w))
  else if f = 0b11010 then
    if fRs2 w = 0 then .ok (.fcvtSW (fRd w) (fRs1 w) (fF3 w))
    else if fRs2 w = 1 then .ok (.fcvtSWu (fRd w) (fRs1 w) (fF3 w))
    else if fRs2 w = 2 then accept x64 (.fcvtSL (fRd w) (fRs1 w) (fF3 w))
    else accept (fRs2 w == 3 && x64) (.fcvtSLu (fRd w) (fRs1 w) (fF3 w))
  else if f = 0b01000 then accept (fRs2 w == 1 && cfg.dOn) (.fcvtSD (fRd w) (fRs1 w) (fF3 w))
  else if f = 0b11100 then
    if fF3 w = 0 then accept (fRs2 w == 0) (.fmvXW (fRd w) (fRs1 w))
    else accept (fF3 w == 1 && fRs2 w == 0) (.fclassS (fRd w) (fRs1 w))
  else if f = 0b11110 then accept (fF3 w == 0 && fRs2 w == 0) (.fmvWX (fRd w) (fRs1 w))
  else .error .reserved

/-- The double-precision OP-FP slots: fmt = 01. -/
def decodeOpFpD (cfg : Config) (w : BitVec 32) : Except Reject Instr :=
  let f := fF5 w
  let x64 := cfg.xlen == .rv64
  if fFmt w ≠ 0b01 then .error .reserved
  else if f = 0b00000 then .ok (.faddD (fRd w) (fRs1 w) (fRs2 w) (fF3 w))
  else if f = 0b00001 then .ok (.fsubD (fRd w) (fRs1 w) (fRs2 w) (fF3 w))
  else if f = 0b00010 then .ok (.fmulD (fRd w) (fRs1 w) (fRs2 w) (fF3 w))
  else if f = 0b00011 then .ok (.fdivD (fRd w) (fRs1 w) (fRs2 w) (fF3 w))
  else if f = 0b01011 then accept (fRs2 w == 0) (.fsqrtD (fRd w) (fRs1 w) (fF3 w))
  else if f = 0b00100 then
    if fF3 w = 0 then .ok (.fsgnjD (fRd w) (fRs1 w) (fRs2 w))
    else if fF3 w = 1 then .ok (.fsgnjnD (fRd w) (fRs1 w) (fRs2 w))
    else accept (fF3 w == 2) (.fsgnjxD (fRd w) (fRs1 w) (fRs2 w))
  else if f = 0b00101 then
    if fF3 w = 0 then .ok (.fminD (fRd w) (fRs1 w) (fRs2 w))
    else accept (fF3 w == 1) (.fmaxD (fRd w) (fRs1 w) (fRs2 w))
  else if f = 0b10100 then
    if fF3 w = 2 then .ok (.feqD (fRd w) (fRs1 w) (fRs2 w))
    else if fF3 w = 1 then .ok (.fltD (fRd w) (fRs1 w) (fRs2 w))
    else accept (fF3 w == 0) (.fleD (fRd w) (fRs1 w) (fRs2 w))
  else if f = 0b11000 then
    if fRs2 w = 0 then .ok (.fcvtWD (fRd w) (fRs1 w) (fF3 w))
    else if fRs2 w = 1 then .ok (.fcvtWuD (fRd w) (fRs1 w) (fF3 w))
    else if fRs2 w = 2 then accept x64 (.fcvtLD (fRd w) (fRs1 w) (fF3 w))
    else accept (fRs2 w == 3 && x64) (.fcvtLuD (fRd w) (fRs1 w) (fF3 w))
  else if f = 0b11010 then
    if fRs2 w = 0 then .ok (.fcvtDW (fRd w) (fRs1 w) (fF3 w))
    else if fRs2 w = 1 then .ok (.fcvtDWu (fRd w) (fRs1 w) (fF3 w))
    else if fRs2 w = 2 then accept x64 (.fcvtDL (fRd w) (fRs1 w) (fF3 w))
    else accept (fRs2 w == 3 && x64) (.fcvtDLu (fRd w) (fRs1 w) (fF3 w))
  else if f = 0b01000 then accept (fRs2 w == 0) (.fcvtDS (fRd w) (fRs1 w) (fF3 w))
  else if f = 0b11100 then
    if fF3 w = 0 then accept (fRs2 w == 0 && x64) (.fmvXD (fRd w) (fRs1 w))
    else accept (fF3 w == 1 && fRs2 w == 0) (.fclassD (fRd w) (fRs1 w))
  else if f = 0b11110 then accept (fF3 w == 0 && fRs2 w == 0 && x64) (.fmvDX (fRd w) (fRs1 w))
  else .error .reserved

/-- The PRIV slot: SYSTEM funct3 = 000 (43_system.md R435). -/
def decodePriv (w : BitVec 32) : Except Reject Instr :=
  if w = 0x00000073 then .ok .ecall
  else if w = 0x00100073 then .ok .ebreak
  else if w = 0x10200073 then .ok .sret
  else if w = 0x30200073 then .ok .mret
  else if w = 0x10500073 then .ok .wfi
  else accept (fF7 w == 0b0001001 && fRd w == 0) (.sfenceVma (fRs1 w) (fRs2 w))

/-- A shift-immediate word: funct6 as the row has it, and shamt[5] = 0 when XLEN = 32 (R161, R206 item 2). -/
def shiftOk (cfg : Config) (f6 : BitVec 6) (w : BitVec 32) : Bool :=
  fF6 w == f6 && (cfg.xlen == .rv64 || !w.getLsbD 25)

/-- What the handler of an FTABLE slot makes of a word. -/
def FullHandler.run (cfg : Config) (h : FullHandler) (w : BitVec 32) : Except Reject Instr :=
  match h with
  | .illegal => .error .illegalSlot
  | .lb => .ok (.lb (fRd w) (fRs1 w) (fImmI w))
  | .lh => .ok (.lh (fRd w) (fRs1 w) (fImmI w))
  | .lw => .ok (.lw (fRd w) (fRs1 w) (fImmI w))
  | .ld => .ok (.ld (fRd w) (fRs1 w) (fImmI w))
  | .lbu => .ok (.lbu (fRd w) (fRs1 w) (fImmI w))
  | .lhu => .ok (.lhu (fRd w) (fRs1 w) (fImmI w))
  | .lwu => .ok (.lwu (fRd w) (fRs1 w) (fImmI w))
  | .flw => .ok (.flw (fRd w) (fRs1 w) (fImmI w))
  | .fld => .ok (.fld (fRd w) (fRs1 w) (fImmI w))
  | .fence => .ok (.fence (w.extractLsb' 28 4) (w.extractLsb' 24 4) (w.extractLsb' 20 4) (fRs1 w) (fRd w))
  | .fenceI => .ok (.fenceI (fImmI w) (fRs1 w) (fRd w))
  | .addi => .ok (.addi (fRd w) (fRs1 w) (fImmI w))
  | .slli => accept (shiftOk cfg 0b000000 w) (.slli (fRd w) (fRs1 w) (fShamt6 w))
  | .slti => .ok (.slti (fRd w) (fRs1 w) (fImmI w))
  | .sltiu => .ok (.sltiu (fRd w) (fRs1 w) (fImmI w))
  | .xori => .ok (.xori (fRd w) (fRs1 w) (fImmI w))
  | .srxi =>
    if shiftOk cfg 0b000000 w then .ok (.srli (fRd w) (fRs1 w) (fShamt6 w))
    else accept (shiftOk cfg 0b010000 w) (.srai (fRd w) (fRs1 w) (fShamt6 w))
  | .ori => .ok (.ori (fRd w) (fRs1 w) (fImmI w))
  | .andi => .ok (.andi (fRd w) (fRs1 w) (fImmI w))
  | .auipc => .ok (.auipc (fRd w) (fImmU w))
  | .addiw => .ok (.addiw (fRd w) (fRs1 w) (fImmI w))
  | .slliw => accept (fF7 w == 0) (.slliw (fRd w) (fRs1 w) (fRs2 w))
  | .srxiw =>
    if fF7 w = 0 then .ok (.srliw (fRd w) (fRs1 w) (fRs2 w))
    else accept (fF7 w == 0b0100000) (.sraiw (fRd w) (fRs1 w) (fRs2 w))
  | .sb => .ok (.sb (fRs1 w) (fRs2 w) (fImmS w))
  | .sh => .ok (.sh (fRs1 w) (fRs2 w) (fImmS w))
  | .sw => .ok (.sw (fRs1 w) (fRs2 w) (fImmS w))
  | .sd => .ok (.sd (fRs1 w) (fRs2 w) (fImmS w))
  | .fsw => .ok (.fsw (fRs1 w) (fRs2 w) (fImmS w))
  | .fsd => .ok (.fsd (fRs1 w) (fRs2 w) (fImmS w))
  | .amoW => decodeAmoW w
  | .amoD => decodeAmoD w
  | .addSub =>
    if fF7 w = 0 then .ok (.add (fRd w) (fRs1 w) (fRs2 w))
    else accept (fF7 w == 0b0100000) (.sub (fRd w) (fRs1 w) (fRs2 w))
  | .sll => accept (fF7 w == 0) (.sll (fRd w) (fRs1 w) (fRs2 w))
  | .slt => accept (fF7 w == 0) (.slt (fRd w) (fRs1 w) (fRs2 w))
  | .sltu => accept (fF7 w == 0) (.sltu (fRd w) (fRs1 w) (fRs2 w))
  | .xor => accept (fF7 w == 0) (.xor (fRd w) (fRs1 w) (fRs2 w))
  | .srx =>
    if fF7 w = 0 then .ok (.srl (fRd w) (fRs1 w) (fRs2 w))
    else accept (fF7 w == 0b0100000) (.sra (fRd w) (fRs1 w) (fRs2 w))
  | .or => accept (fF7 w == 0) (.or (fRd w) (fRs1 w) (fRs2 w))
  | .and => accept (fF7 w == 0) (.and (fRd w) (fRs1 w) (fRs2 w))
  | .mul => accept (fF7 w == 1) (.mul (fRd w) (fRs1 w) (fRs2 w))
  | .mulh => accept (fF7 w == 1) (.mulh (fRd w) (fRs1 w) (fRs2 w))
  | .mulhsu => accept (fF7 w == 1) (.mulhsu (fRd w) (fRs1 w) (fRs2 w))
  | .mulhu => accept (fF7 w == 1) (.mulhu (fRd w) (fRs1 w) (fRs2 w))
  | .div => accept (fF7 w == 1) (.div (fRd w) (fRs1 w) (fRs2 w))
  | .divu => accept (fF7 w == 1) (.divu (fRd w) (fRs1 w) (fRs2 w))
  | .rem => accept (fF7 w == 1) (.rem (fRd w) (fRs1 w) (fRs2 w))
  | .remu => accept (fF7 w == 1) (.remu (fRd w) (fRs1 w) (fRs2 w))
  | .lui => .ok (.lui (fRd w) (fImmU w))
  | .addSubW =>
    if fF7 w = 0 then .ok (.addw (fRd w) (fRs1 w) (fRs2 w))
    else accept (fF7 w == 0b0100000) (.subw (fRd w) (fRs1 w) (fRs2 w))
  | .sllw => accept (fF7 w == 0) (.sllw (fRd w) (fRs1 w) (fRs2 w))
  | .srxw =>
    if fF7 w = 0 then .ok (.srlw (fRd w) (fRs1 w) (fRs2 w))
    else accept (fF7 w == 0b0100000) (.sraw (fRd w) (fRs1 w) (fRs2 w))
  | .mulw => accept (fF7 w == 1) (.mulw (fRd w) (fRs1 w) (fRs2 w))
  | .divw => accept (fF7 w == 1) (.divw (fRd w) (fRs1 w) (fRs2 w))
  | .divuw => accept (fF7 w == 1) (.divuw (fRd w) (fRs1 w) (fRs2 w))
  | .remw => accept (fF7 w == 1) (.remw (fRd w) (fRs1 w) (fRs2 w))
  | .remuw => accept (fF7 w == 1) (.remuw (fRd w) (fRs1 w) (fRs2 w))
  | .fmaddS => accept (fFmt w == 0) (.fmaddS (fRd w) (fRs1 w) (fRs2 w) (fRs3 w) (fF3 w))
  | .fmaddD => accept (fFmt w == 1) (.fmaddD (fRd w) (fRs1 w) (fRs2 w) (fRs3 w) (fF3 w))
  | .fmsubS => accept (fFmt w == 0) (.fmsubS (fRd w) (fRs1 w) (fRs2 w) (fRs3 w) (fF3 w))
  | .fmsubD => accept (fFmt w == 1) (.fmsubD (fRd w) (fRs1 w) (fRs2 w) (fRs3 w) (fF3 w))
  | .fnmsubS => accept (fFmt w == 0) (.fnmsubS (fRd w) (fRs1 w) (fRs2 w) (fRs3 w) (fF3 w))
  | .fnmsubD => accept (fFmt w == 1) (.fnmsubD (fRd w) (fRs1 w) (fRs2 w) (fRs3 w) (fF3 w))
  | .fnmaddS => accept (fFmt w == 0) (.fnmaddS (fRd w) (fRs1 w) (fRs2 w) (fRs3 w) (fF3 w))
  | .fnmaddD => accept (fFmt w == 1) (.fnmaddD (fRd w) (fRs1 w) (fRs2 w) (fRs3 w) (fF3 w))
  | .opFpS => decodeOpFpS cfg w
  | .opFpD => decodeOpFpD cfg w
  | .beq => .ok (.beq (fRs1 w) (fRs2 w) (fOffB w))
  | .bne => .ok (.bne (fRs1 w) (fRs2 w) (fOffB w))
  | .blt => .ok (.blt (fRs1 w) (fRs2 w) (fOffB w))
  | .bge => .ok (.bge (fRs1 w) (fRs2 w) (fOffB w))
  | .bltu => .ok (.bltu (fRs1 w) (fRs2 w) (fOffB w))
  | .bgeu => .ok (.bgeu (fRs1 w) (fRs2 w) (fOffB w))
  | .jalr => .ok (.jalr (fRd w) (fRs1 w) (fImmI w))
  | .jal => .ok (.jal (fRd w) (fOffJ w))
  | .priv => decodePriv w
  | .csrrw => .ok (.csrrw (fRd w) (fImmI w) (fRs1 w))
  | .csrrs => .ok (.csrrs (fRd w) (fImmI w) (fRs1 w))
  | .csrrc => .ok (.csrrc (fRd w) (fImmI w) (fRs1 w))
  | .csrrwi => .ok (.csrrwi (fRd w) (fImmI w) (fRs1 w))
  | .csrrsi => .ok (.csrrsi (fRd w) (fImmI w) (fRs1 w))
  | .csrrci => .ok (.csrrci (fRd w) (fImmI w) (fRs1 w))

/-- Slot 17: C.SRLI, C.SRAI, C.ANDI and the CA group (R200). -/
def decodeCAlu (cfg : Config) (h : BitVec 16) : Except Reject Instr :=
  let f2 := h.extractLsb' 10 2
  let x64 := cfg.xlen == .rv64
  let rd := cRs1' h
  let rs2 := cRd' h
  if f2 = 0b00 then accept (x64 || !h.getLsbD 12) (.cSrli rd (cImm6 h))
  else if f2 = 0b01 then accept (x64 || !h.getLsbD 12) (.cSrai rd (cImm6 h))
  else if f2 = 0b10 then .ok (.cAndi rd (cImm6 h))
  else
    let sel : BitVec 3 := h.extractLsb' 12 1 ++ h.extractLsb' 5 2
    if sel = 0b000 then .ok (.cSub rd rs2)
    else if sel = 0b001 then .ok (.cXor rd rs2)
    else if sel = 0b010 then .ok (.cOr rd rs2)
    else if sel = 0b011 then .ok (.cAnd rd rs2)
    else if sel = 0b100 then accept x64 (.cSubw rd rs2)
    else accept (sel == 0b101 && x64) (.cAddw rd rs2)

/-- Slot 18: C.JR, C.MV, C.EBREAK, C.JALR, C.ADD (R200). -/
def decodeCJrMvAdd (h : BitVec 16) : Except Reject Instr :=
  let r := cRd h
  let rs2 := cRs2 h
  if h.getLsbD 12 then
    if rs2 = 0 then (if r = 0 then .ok .cEbreak else .ok (.cJalr r)) else .ok (.cAdd r rs2)
  else
    if rs2 = 0 then accept (r != 0) (.cJr r) else .ok (.cMv r rs2)

/-- What the handler of a CTABLE slot makes of a parcel. -/
def HalfHandler.run (cfg : Config) (k : HalfHandler) (h : BitVec 16) : Except Reject Instr :=
  match k with
  | .illegal => .error .illegalSlot
  | .addi4spn => accept (cImm4spn h != 0) (.cAddi4spn (cRd' h) (cImm4spn h))
  | .fld => .ok (.cFld (cRd' h) (cRs1' h) (cOffD h))
  | .lw => .ok (.cLw (cRd' h) (cRs1' h) (cOffW h))
  | .flw => .ok (.cFlw (cRd' h) (cRs1' h) (cOffW h))
  | .ld => .ok (.cLd (cRd' h) (cRs1' h) (cOffD h))
  | .fsd => .ok (.cFsd (cRs1' h) (cRd' h) (cOffD h))
  | .sw => .ok (.cSw (cRs1' h) (cRd' h) (cOffW h))
  | .fsw => .ok (.cFsw (cRs1' h) (cRd' h) (cOffW h))
  | .sd => .ok (.cSd (cRs1' h) (cRd' h) (cOffD h))
  | .nopAddi => if cRd h = 0 then .ok (.cNop (cImm6 h)) else .ok (.cAddi (cRd h) (cImm6 h))
  | .jal => .ok (.cJal (cOffJ h))
  | .addiw => accept (cRd h != 0) (.cAddiw (cRd h) (cImm6 h))
  | .li => .ok (.cLi (cRd h) (cImm6 h))
  | .addi16spLui =>
    if cRd h = 2 then accept (cImm16sp h != 0) (.cAddi16sp (cImm16sp h))
    else accept (cImm6 h != 0) (.cLui (cRd h) (cImm6 h))
  | .alu => decodeCAlu cfg h
  | .j => .ok (.cJ (cOffJ h))
  | .beqz => .ok (.cBeqz (cRs1' h) (cOffB h))
  | .bnez => .ok (.cBnez (cRs1' h) (cOffB h))
  | .slli => accept (cfg.xlen == .rv64 || !h.getLsbD 12) (.cSlli (cRd h) (cImm6 h))
  | .fldsp => .ok (.cFldsp (cRd h) (cOffLdsp h))
  | .lwsp => accept (cRd h != 0) (.cLwsp (cRd h) (cOffLwsp h))
  | .flwsp => .ok (.cFlwsp (cRd h) (cOffLwsp h))
  | .ldsp => accept (cRd h != 0) (.cLdsp (cRd h) (cOffLdsp h))
  | .jrMvAdd => decodeCJrMvAdd h
  | .fsdsp => .ok (.cFsdsp (cRs2 h) (cOffSdsp h))
  | .swsp => .ok (.cSwsp (cRs2 h) (cOffSwsp h))
  | .fswsp => .ok (.cFswsp (cRs2 h) (cOffSwsp h))
  | .sdsp => .ok (.cSdsp (cRs2 h) (cOffSdsp h))

/-! ## Installers and table construction (R172 to R177, 70_reset_and_hazards.md R852) -/

/-- The slots an FTABLE installer writes: (a) one slot, (b) both values of bit 25, (c) all sixteen slots of an
opcode (R173). -/
inductive FullPattern where
  | slot (b25 : BitVec 1) (f3 : BitVec 3) (op : BitVec 5)
  | pair (f3 : BitVec 3) (op : BitVec 5)
  | opcode (op : BitVec 5)
  deriving DecidableEq, Repr

/-- The identifier matches the pattern. -/
def FullPattern.covers : FullPattern → BitVec 9 → Bool
  | .slot b f3 op, id => id == b ++ f3 ++ op
  | .pair f3 op, id => id.extractLsb' 5 3 == f3 && id.extractLsb' 0 5 == op
  | .opcode op, id => id.extractLsb' 0 5 == op

/-- One call of an FTABLE installer: the enable flag and XLEN of the module that makes it, its pattern and the handler. -/
structure FullInstall where
  ext     : Ext
  xlen    : Option XLen
  pattern : FullPattern
  handler : FullHandler
  deriving DecidableEq, Repr

/-- One call of a CTABLE installer (R173 d). -/
structure HalfInstall where
  ext     : Ext
  xlen    : Option XLen
  slot    : BitVec 5
  handler : HalfHandler
  deriving DecidableEq, Repr

/-- The module makes the call in this configuration (R177). -/
def FullInstall.on (cfg : Config) (i : FullInstall) : Bool :=
  (i.xlen == none || i.xlen == some cfg.xlen) && cfg.extOn i.ext

def HalfInstall.on (cfg : Config) (i : HalfInstall) : Bool :=
  (i.xlen == none || i.xlen == some cfg.xlen) && cfg.extOn i.ext

/-- The eight slots of one bit-25 value of an opcode, installed one by one (R175: MADD to OP-FP). -/
def eightSlots (ext : Ext) (b25 : BitVec 1) (op : BitVec 5) (h : FullHandler) : List FullInstall :=
  [⟨ext, none, .slot b25 0 op, h⟩, ⟨ext, none, .slot b25 1 op, h⟩, ⟨ext, none, .slot b25 2 op, h⟩,
   ⟨ext, none, .slot b25 3 op, h⟩, ⟨ext, none, .slot b25 4 op, h⟩, ⟨ext, none, .slot b25 5 op, h⟩,
   ⟨ext, none, .slot b25 6 op, h⟩, ⟨ext, none, .slot b25 7 op, h⟩]

/-- The module of the base I set (R175). -/
def installsI : List FullInstall :=
  [⟨.base, none, .pair 0 0b00000, .lb⟩, ⟨.base, none, .pair 1 0b00000, .lh⟩, ⟨.base, none, .pair 2 0b00000, .lw⟩,
   ⟨.base, some .rv64, .pair 3 0b00000, .ld⟩, ⟨.base, none, .pair 4 0b00000, .lbu⟩,
   ⟨.base, none, .pair 5 0b00000, .lhu⟩, ⟨.base, some .rv64, .pair 6 0b00000, .lwu⟩,
   ⟨.base, none, .pair 0 0b00011, .fence⟩, ⟨.base, none, .pair 1 0b00011, .fenceI⟩] ++
  [⟨.base, none, .pair 0 0b00100, .addi⟩, ⟨.base, none, .pair 1 0b00100, .slli⟩, ⟨.base, none, .pair 2 0b00100, .slti⟩,
   ⟨.base, none, .pair 3 0b00100, .sltiu⟩, ⟨.base, none, .pair 4 0b00100, .xori⟩,
   ⟨.base, none, .pair 5 0b00100, .srxi⟩, ⟨.base, none, .pair 6 0b00100, .ori⟩, ⟨.base, none, .pair 7 0b00100, .andi⟩,
   ⟨.base, none, .opcode 0b00101, .auipc⟩] ++
  [⟨.base, some .rv64, .pair 0 0b00110, .addiw⟩, ⟨.base, some .rv64, .pair 1 0b00110, .slliw⟩,
   ⟨.base, some .rv64, .pair 5 0b00110, .srxiw⟩, ⟨.base, none, .pair 0 0b01000, .sb⟩,
   ⟨.base, none, .pair 1 0b01000, .sh⟩, ⟨.base, none, .pair 2 0b01000, .sw⟩,
   ⟨.base, some .rv64, .pair 3 0b01000, .sd⟩] ++
  [⟨.base, none, .slot 0 0 0b01100, .addSub⟩, ⟨.base, none, .slot 0 1 0b01100, .sll⟩,
   ⟨.base, none, .slot 0 2 0b01100, .slt⟩, ⟨.base, none, .slot 0 3 0b01100, .sltu⟩,
   ⟨.base, none, .slot 0 4 0b01100, .xor⟩, ⟨.base, none, .slot 0 5 0b01100, .srx⟩,
   ⟨.base, none, .slot 0 6 0b01100, .or⟩, ⟨.base, none, .slot 0 7 0b01100, .and⟩,
   ⟨.base, none, .opcode 0b01101, .lui⟩] ++
  [⟨.base, some .rv64, .slot 0 0 0b01110, .addSubW⟩, ⟨.base, some .rv64, .slot 0 1 0b01110, .sllw⟩,
   ⟨.base, some .rv64, .slot 0 5 0b01110, .srxw⟩] ++
  [⟨.base, none, .pair 0 0b11000, .beq⟩, ⟨.base, none, .pair 1 0b11000, .bne⟩, ⟨.base, none, .pair 4 0b11000, .blt⟩,
   ⟨.base, none, .pair 5 0b11000, .bge⟩, ⟨.base, none, .pair 6 0b11000, .bltu⟩, ⟨.base, none, .pair 7 0b11000, .bgeu⟩,
   ⟨.base, none, .pair 0 0b11001, .jalr⟩, ⟨.base, none, .opcode 0b11011, .jal⟩] ++
  [⟨.base, none, .pair 0 0b11100, .priv⟩, ⟨.base, none, .pair 1 0b11100, .csrrw⟩,
   ⟨.base, none, .pair 2 0b11100, .csrrs⟩, ⟨.base, none, .pair 3 0b11100, .csrrc⟩,
   ⟨.base, none, .pair 5 0b11100, .csrrwi⟩, ⟨.base, none, .pair 6 0b11100, .csrrsi⟩,
   ⟨.base, none, .pair 7 0b11100, .csrrci⟩]

/-- The module of M. -/
def installsM : List FullInstall :=
  [⟨.m, none, .slot 1 0 0b01100, .mul⟩, ⟨.m, none, .slot 1 1 0b01100, .mulh⟩, ⟨.m, none, .slot 1 2 0b01100, .mulhsu⟩,
   ⟨.m, none, .slot 1 3 0b01100, .mulhu⟩, ⟨.m, none, .slot 1 4 0b01100, .div⟩, ⟨.m, none, .slot 1 5 0b01100, .divu⟩,
   ⟨.m, none, .slot 1 6 0b01100, .rem⟩, ⟨.m, none, .slot 1 7 0b01100, .remu⟩] ++
  [⟨.m, some .rv64, .slot 1 0 0b01110, .mulw⟩, ⟨.m, some .rv64, .slot 1 4 0b01110, .divw⟩,
   ⟨.m, some .rv64, .slot 1 5 0b01110, .divuw⟩, ⟨.m, some .rv64, .slot 1 6 0b01110, .remw⟩,
   ⟨.m, some .rv64, .slot 1 7 0b01110, .remuw⟩]

/-- The module of A: bit 25 is the rl bit, so both its values are installed (R160). -/
def installsA : List FullInstall :=
  [⟨.a, none, .pair 2 0b01011, .amoW⟩, ⟨.a, some .rv64, .pair 3 0b01011, .amoD⟩]

/-- The module of F. -/
def installsF : List FullInstall :=
  [⟨.f, none, .pair 2 0b00001, .flw⟩, ⟨.f, none, .pair 2 0b01001, .fsw⟩] ++
  eightSlots .f 0 0b10000 .fmaddS ++ eightSlots .f 0 0b10001 .fmsubS ++ eightSlots .f 0 0b10010 .fnmsubS ++
  eightSlots .f 0 0b10011 .fnmaddS ++ eightSlots .f 0 0b10100 .opFpS

/-- The module of D. -/
def installsD : List FullInstall :=
  [⟨.d, none, .pair 3 0b00001, .fld⟩, ⟨.d, none, .pair 3 0b01001, .fsd⟩] ++
  eightSlots .d 1 0b10000 .fmaddD ++ eightSlots .d 1 0b10001 .fmsubD ++ eightSlots .d 1 0b10010 .fnmsubD ++
  eightSlots .d 1 0b10011 .fnmaddD ++ eightSlots .d 1 0b10100 .opFpD

/-- Every FTABLE installer call, module after module. -/
def installsFull : List FullInstall := installsI ++ installsM ++ installsA ++ installsF ++ installsD

/-- Every CTABLE installer call (R176). -/
def installsHalf : List HalfInstall :=
  [⟨.c, none, 0, .addi4spn⟩, ⟨.c, none, 1, .nopAddi⟩, ⟨.c, none, 2, .slli⟩, ⟨.cd, none, 4, .fld⟩,
   ⟨.c, some .rv32, 5, .jal⟩, ⟨.c, some .rv64, 5, .addiw⟩, ⟨.cd, none, 6, .fldsp⟩, ⟨.c, none, 8, .lw⟩,
   ⟨.c, none, 9, .li⟩, ⟨.c, none, 10, .lwsp⟩, ⟨.cf, some .rv32, 12, .flw⟩, ⟨.c, some .rv64, 12, .ld⟩,
   ⟨.c, none, 13, .addi16spLui⟩, ⟨.cf, some .rv32, 14, .flwsp⟩, ⟨.c, some .rv64, 14, .ldsp⟩] ++
  [⟨.c, none, 17, .alu⟩, ⟨.c, none, 18, .jrMvAdd⟩, ⟨.cd, none, 20, .fsd⟩, ⟨.c, none, 21, .j⟩,
   ⟨.cd, none, 22, .fsdsp⟩, ⟨.c, none, 24, .sw⟩, ⟨.c, none, 25, .beqz⟩, ⟨.c, none, 26, .swsp⟩,
   ⟨.cf, some .rv32, 28, .fsw⟩, ⟨.c, some .rv64, 28, .sd⟩, ⟨.c, none, 29, .bnez⟩,
   ⟨.cf, some .rv32, 30, .fswsp⟩, ⟨.c, some .rv64, 30, .sdsp⟩]

/-- The handler in one slot after construction: the illegal handler, overwritten by every call that covers the slot. -/
def slotFull (cfg : Config) (id : BitVec 9) : FullHandler :=
  installsFull.foldl (fun h i => if i.on cfg && i.pattern.covers id then i.handler else h) .illegal

def slotHalf (cfg : Config) (id : BitVec 5) : HalfHandler :=
  installsHalf.foldl (fun h i => if i.on cfg && i.slot == id then i.handler else h) .illegal

/-- The values of `f` at the 2^k numbers from `a` on, in order; halving keeps its evaluation shallow. -/
def tableFrom {α : Type} (f : Nat → α) : Nat → Nat → List α
  | 0, a => [f a]
  | k + 1, a => tableFrom f k a ++ tableFrom f k (a + 2 ^ k)

/-- FTABLE, 512 slots: a row of 32 for each value of `{inst[25], inst[14:12]}`, indexed by `inst[6:2]` (R170). -/
def buildFull (cfg : Config) : List (List FullHandler) :=
  tableFrom (fun r => tableFrom (fun c => slotFull cfg (BitVec.ofNat 9 (32 * r + c))) 5 0) 4 0

/-- The slot of an identifier. -/
def slotAt (table : List (List FullHandler)) (id : BitVec 9) : FullHandler :=
  (table.getD (id.toNat / 32) []).getD (id.toNat % 32) .illegal

/-- CTABLE: 32 slots. -/
def buildHalf (cfg : Config) : List HalfHandler := tableFrom (fun k => slotHalf cfg (BitVec.ofNat 5 k)) 5 0

/-! ## Decode -/

/-- A 32-bit word: look its identifier up, let the handler sub-decode it. -/
def decodeFull (cfg : Config) (table : List (List FullHandler)) (w : BitVec 32) : Except Reject Instr :=
  (slotAt table (id32 w)).run cfg w

/-- A 16-bit parcel. -/
def decodeHalf (cfg : Config) (table : List HalfHandler) (h : BitVec 16) : Except Reject Instr :=
  (table.getD (id16 h).toNat .illegal).run cfg h

/-- A parcel or word, with the tables of the hart. -/
def decodeWith (cfg : Config) (ft : List (List FullHandler)) (ct : List HalfHandler) : Enc → Except Reject Instr
  | .half h => decodeHalf cfg ct h
  | .full w => decodeFull cfg ft w

/-- A parcel or word, with the tables built for the configuration. -/
def decode (cfg : Config) (e : Enc) : Except Reject Instr := decodeWith cfg (buildFull cfg) (buildHalf cfg) e

/-- Two bytes as a parcel, little-endian (20_memory.md R106). -/
def parcel (lo hi : Byte) : BitVec 16 := hi ++ lo

/-- Decode the first instruction of a byte list and give the rest of the list; total on any bytes. -/
def decodeBytes (cfg : Config) : List Byte → Except Reject (Instr × List Byte)
  | b0 :: b1 :: rest =>
    if isFull (parcel b0 b1) then
      match rest with
      | b2 :: b3 :: rest' =>
        match decode cfg (.full (parcel b2 b3 ++ parcel b0 b1)) with
        | .ok i => .ok (i, rest')
        | .error e => .error e
      | _ => .error .truncated
    else
      match decode cfg (.half (parcel b0 b1)) with
      | .ok i => .ok (i, rest)
      | .error e => .error e
  | _ => .error .truncated

/-! ## Encoder (30_encoding.md R153 to R163 and R185 to R199) -/

def encR (f7 : BitVec 7) (rs2 rs1 : Reg) (f3 : BitVec 3) (rd : Reg) (op : BitVec 7) : BitVec 32 :=
  f7 ++ rs2 ++ rs1 ++ f3 ++ rd ++ op

def encR4 (rs3 : Reg) (fmt : BitVec 2) (rs2 rs1 : Reg) (rm : BitVec 3) (rd : Reg) (op : BitVec 7) : BitVec 32 :=
  rs3 ++ fmt ++ rs2 ++ rs1 ++ rm ++ rd ++ op

def encAmo (f5 : BitVec 5) (aq rl : Bool) (rs2 rs1 : Reg) (f3 : BitVec 3) (rd : Reg) (op : BitVec 7) : BitVec 32 :=
  f5 ++ BitVec.ofBool aq ++ BitVec.ofBool rl ++ rs2 ++ rs1 ++ f3 ++ rd ++ op

def encShift (f6 : BitVec 6) (shamt : BitVec 6) (rs1 : Reg) (f3 : BitVec 3) (rd : Reg) (op : BitVec 7) : BitVec 32 :=
  f6 ++ shamt ++ rs1 ++ f3 ++ rd ++ op

def encI (imm : BitVec 12) (rs1 : Reg) (f3 : BitVec 3) (rd : Reg) (op : BitVec 7) : BitVec 32 :=
  imm ++ rs1 ++ f3 ++ rd ++ op

def encS (imm : BitVec 12) (rs2 rs1 : Reg) (f3 : BitVec 3) (op : BitVec 7) : BitVec 32 :=
  imm.extractLsb' 5 7 ++ rs2 ++ rs1 ++ f3 ++ imm.extractLsb' 0 5 ++ op

/-- `off` is off[12:1] (R157). -/
def encB (off : BitVec 12) (rs2 rs1 : Reg) (f3 : BitVec 3) (op : BitVec 7) : BitVec 32 :=
  off.extractLsb' 11 1 ++ off.extractLsb' 4 6 ++ rs2 ++ rs1 ++ f3 ++ off.extractLsb' 0 4 ++
    off.extractLsb' 10 1 ++ op

def encU (imm : BitVec 20) (rd : Reg) (op : BitVec 7) : BitVec 32 :=
  imm ++ rd ++ op

/-- `off` is off[20:1] (R159). -/
def encJ (off : BitVec 20) (rd : Reg) (op : BitVec 7) : BitVec 32 :=
  off.extractLsb' 19 1 ++ off.extractLsb' 0 10 ++ off.extractLsb' 10 1 ++ off.extractLsb' 11 8 ++ rd ++ op

/-- C.ADDI4SPN: `imm` is nzuimm[9:2] (R187). -/
def encCIW (imm : BitVec 8) (rd : CReg) : BitVec 16 :=
  0b000#3 ++ imm.extractLsb' 2 2 ++ imm.extractLsb' 4 4 ++ imm.extractLsb' 0 1 ++ imm.extractLsb' 1 1 ++ rd ++ 0b00#2

/-- Word offset: `u` is uimm[6:2] (R188). -/
def encCW (f3 : BitVec 3) (u : BitVec 5) (rs1 r2 : CReg) (op : BitVec 2) : BitVec 16 :=
  f3 ++ u.extractLsb' 1 3 ++ rs1 ++ u.extractLsb' 0 1 ++ u.extractLsb' 4 1 ++ r2 ++ op

/-- Doubleword offset: `u` is uimm[7:3] (R189). -/
def encCD (f3 : BitVec 3) (u : BitVec 5) (rs1 r2 : CReg) (op : BitVec 2) : BitVec 16 :=
  f3 ++ u.extractLsb' 0 3 ++ rs1 ++ u.extractLsb' 3 2 ++ r2 ++ op

def encCI (f3 : BitVec 3) (imm : BitVec 6) (rd : Reg) (op : BitVec 2) : BitVec 16 :=
  f3 ++ imm.extractLsb' 5 1 ++ rd ++ imm.extractLsb' 0 5 ++ op

/-- C.ADDI16SP: `imm` is nzimm[9:4] (R191). -/
def encCAddi16sp (imm : BitVec 6) : BitVec 16 :=
  0b011#3 ++ imm.extractLsb' 5 1 ++ 2#5 ++ imm.extractLsb' 0 1 ++ imm.extractLsb' 2 1 ++ imm.extractLsb' 3 2 ++
    imm.extractLsb' 1 1 ++ 0b01#2

def encCBAlu (f3 : BitVec 3) (f2 : BitVec 2) (imm : BitVec 6) (rd : CReg) (op : BitVec 2) : BitVec 16 :=
  f3 ++ imm.extractLsb' 5 1 ++ f2 ++ rd ++ imm.extractLsb' 0 5 ++ op

def encCA (f6 : BitVec 6) (rd : CReg) (f2 : BitVec 2) (rs2 : CReg) (op : BitVec 2) : BitVec 16 :=
  f6 ++ rd ++ f2 ++ rs2 ++ op

/-- `off` is off[11:1] (R194). -/
def encCJ (f3 : BitVec 3) (off : BitVec 11) (op : BitVec 2) : BitVec 16 :=
  f3 ++ off.extractLsb' 10 1 ++ off.extractLsb' 3 1 ++ off.extractLsb' 7 2 ++ off.extractLsb' 9 1 ++
    off.extractLsb' 5 1 ++ off.extractLsb' 6 1 ++ off.extractLsb' 0 3 ++ off.extractLsb' 4 1 ++ op

/-- `off` is off[8:1] (R195). -/
def encCB (f3 : BitVec 3) (off : BitVec 8) (rs1 : CReg) (op : BitVec 2) : BitVec 16 :=
  f3 ++ off.extractLsb' 7 1 ++ off.extractLsb' 2 2 ++ rs1 ++ off.extractLsb' 5 2 ++ off.extractLsb' 0 2 ++
    off.extractLsb' 4 1 ++ op

/-- `u` is uimm[7:2] (R196). -/
def encCLwsp (f3 : BitVec 3) (u : BitVec 6) (rd : Reg) (op : BitVec 2) : BitVec 16 :=
  f3 ++ u.extractLsb' 3 1 ++ rd ++ u.extractLsb' 0 3 ++ u.extractLsb' 4 2 ++ op

/-- `u` is uimm[8:3] (R197). -/
def encCLdsp (f3 : BitVec 3) (u : BitVec 6) (rd : Reg) (op : BitVec 2) : BitVec 16 :=
  f3 ++ u.extractLsb' 2 1 ++ rd ++ u.extractLsb' 0 2 ++ u.extractLsb' 3 3 ++ op

/-- `u` is uimm[7:2] (R198). -/
def encCSwsp (f3 : BitVec 3) (u : BitVec 6) (rs2 : Reg) (op : BitVec 2) : BitVec 16 :=
  f3 ++ u.extractLsb' 0 4 ++ u.extractLsb' 4 2 ++ rs2 ++ op

/-- `u` is uimm[8:3] (R199). -/
def encCSdsp (f3 : BitVec 3) (u : BitVec 6) (rs2 : Reg) (op : BitVec 2) : BitVec 16 :=
  f3 ++ u.extractLsb' 0 3 ++ u.extractLsb' 3 3 ++ rs2 ++ op

def encCR (f4 : BitVec 4) (rd rs2 : Reg) (op : BitVec 2) : BitVec 16 :=
  f4 ++ rd ++ rs2 ++ op

/-- The word or parcel of an instruction, from the encoding of its row. -/
def encode : Instr → Enc
  | .lui rd imm => .full (encU imm rd 0b0110111#7)
  | .auipc rd imm => .full (encU imm rd 0b0010111#7)
  | .jal rd off => .full (encJ off rd 0b1101111#7)
  | .jalr rd rs1 imm => .full (encI imm rs1 0b000#3 rd 0b1100111#7)
  | .beq rs1 rs2 off => .full (encB off rs2 rs1 0b000#3 0b1100011#7)
  | .bne rs1 rs2 off => .full (encB off rs2 rs1 0b001#3 0b1100011#7)
  | .blt rs1 rs2 off => .full (encB off rs2 rs1 0b100#3 0b1100011#7)
  | .bge rs1 rs2 off => .full (encB off rs2 rs1 0b101#3 0b1100011#7)
  | .bltu rs1 rs2 off => .full (encB off rs2 rs1 0b110#3 0b1100011#7)
  | .bgeu rs1 rs2 off => .full (encB off rs2 rs1 0b111#3 0b1100011#7)
  | .lb rd rs1 imm => .full (encI imm rs1 0b000#3 rd 0b0000011#7)
  | .lh rd rs1 imm => .full (encI imm rs1 0b001#3 rd 0b0000011#7)
  | .lw rd rs1 imm => .full (encI imm rs1 0b010#3 rd 0b0000011#7)
  | .ld rd rs1 imm => .full (encI imm rs1 0b011#3 rd 0b0000011#7)
  | .lbu rd rs1 imm => .full (encI imm rs1 0b100#3 rd 0b0000011#7)
  | .lhu rd rs1 imm => .full (encI imm rs1 0b101#3 rd 0b0000011#7)
  | .lwu rd rs1 imm => .full (encI imm rs1 0b110#3 rd 0b0000011#7)
  | .sb rs1 rs2 imm => .full (encS imm rs2 rs1 0b000#3 0b0100011#7)
  | .sh rs1 rs2 imm => .full (encS imm rs2 rs1 0b001#3 0b0100011#7)
  | .sw rs1 rs2 imm => .full (encS imm rs2 rs1 0b010#3 0b0100011#7)
  | .sd rs1 rs2 imm => .full (encS imm rs2 rs1 0b011#3 0b0100011#7)
  | .addi rd rs1 imm => .full (encI imm rs1 0b000#3 rd 0b0010011#7)
  | .slti rd rs1 imm => .full (encI imm rs1 0b010#3 rd 0b0010011#7)
  | .sltiu rd rs1 imm => .full (encI imm rs1 0b011#3 rd 0b0010011#7)
  | .xori rd rs1 imm => .full (encI imm rs1 0b100#3 rd 0b0010011#7)
  | .ori rd rs1 imm => .full (encI imm rs1 0b110#3 rd 0b0010011#7)
  | .andi rd rs1 imm => .full (encI imm rs1 0b111#3 rd 0b0010011#7)
  | .slli rd rs1 shamt => .full (encShift 0b000000#6 shamt rs1 0b001#3 rd 0b0010011#7)
  | .srli rd rs1 shamt => .full (encShift 0b000000#6 shamt rs1 0b101#3 rd 0b0010011#7)
  | .srai rd rs1 shamt => .full (encShift 0b010000#6 shamt rs1 0b101#3 rd 0b0010011#7)
  | .add rd rs1 rs2 => .full (encR 0b0000000#7 rs2 rs1 0b000#3 rd 0b0110011#7)
  | .sub rd rs1 rs2 => .full (encR 0b0100000#7 rs2 rs1 0b000#3 rd 0b0110011#7)
  | .sll rd rs1 rs2 => .full (encR 0b0000000#7 rs2 rs1 0b001#3 rd 0b0110011#7)
  | .slt rd rs1 rs2 => .full (encR 0b0000000#7 rs2 rs1 0b010#3 rd 0b0110011#7)
  | .sltu rd rs1 rs2 => .full (encR 0b0000000#7 rs2 rs1 0b011#3 rd 0b0110011#7)
  | .xor rd rs1 rs2 => .full (encR 0b0000000#7 rs2 rs1 0b100#3 rd 0b0110011#7)
  | .srl rd rs1 rs2 => .full (encR 0b0000000#7 rs2 rs1 0b101#3 rd 0b0110011#7)
  | .sra rd rs1 rs2 => .full (encR 0b0100000#7 rs2 rs1 0b101#3 rd 0b0110011#7)
  | .or rd rs1 rs2 => .full (encR 0b0000000#7 rs2 rs1 0b110#3 rd 0b0110011#7)
  | .and rd rs1 rs2 => .full (encR 0b0000000#7 rs2 rs1 0b111#3 rd 0b0110011#7)
  | .addiw rd rs1 imm => .full (encI imm rs1 0b000#3 rd 0b0011011#7)
  | .slliw rd rs1 shamt => .full (encR 0b0000000#7 shamt rs1 0b001#3 rd 0b0011011#7)
  | .srliw rd rs1 shamt => .full (encR 0b0000000#7 shamt rs1 0b101#3 rd 0b0011011#7)
  | .sraiw rd rs1 shamt => .full (encR 0b0100000#7 shamt rs1 0b101#3 rd 0b0011011#7)
  | .addw rd rs1 rs2 => .full (encR 0b0000000#7 rs2 rs1 0b000#3 rd 0b0111011#7)
  | .subw rd rs1 rs2 => .full (encR 0b0100000#7 rs2 rs1 0b000#3 rd 0b0111011#7)
  | .sllw rd rs1 rs2 => .full (encR 0b0000000#7 rs2 rs1 0b001#3 rd 0b0111011#7)
  | .srlw rd rs1 rs2 => .full (encR 0b0000000#7 rs2 rs1 0b101#3 rd 0b0111011#7)
  | .sraw rd rs1 rs2 => .full (encR 0b0100000#7 rs2 rs1 0b101#3 rd 0b0111011#7)
  | .fence fm pred succ rs1 rd => .full (encI (fm ++ pred ++ succ) rs1 0b000#3 rd 0b0001111#7)
  | .fenceI imm rs1 rd => .full (encI imm rs1 0b001#3 rd 0b0001111#7)
  | .ecall => .full (encI 0b000000000000#12 0#5 0b000#3 0#5 0b1110011#7)
  | .ebreak => .full (encI 0b000000000001#12 0#5 0b000#3 0#5 0b1110011#7)
  | .csrrw rd csr rs1 => .full (encI csr rs1 0b001#3 rd 0b1110011#7)
  | .csrrs rd csr rs1 => .full (encI csr rs1 0b010#3 rd 0b1110011#7)
  | .csrrc rd csr rs1 => .full (encI csr rs1 0b011#3 rd 0b1110011#7)
  | .csrrwi rd csr uimm => .full (encI csr uimm 0b101#3 rd 0b1110011#7)
  | .csrrsi rd csr uimm => .full (encI csr uimm 0b110#3 rd 0b1110011#7)
  | .csrrci rd csr uimm => .full (encI csr uimm 0b111#3 rd 0b1110011#7)
  | .sret => .full (encI 0b000100000010#12 0#5 0b000#3 0#5 0b1110011#7)
  | .mret => .full (encI 0b001100000010#12 0#5 0b000#3 0#5 0b1110011#7)
  | .wfi => .full (encI 0b000100000101#12 0#5 0b000#3 0#5 0b1110011#7)
  | .sfenceVma rs1 rs2 => .full (encR 0b0001001#7 rs2 rs1 0b000#3 0#5 0b1110011#7)
  | .mul rd rs1 rs2 => .full (encR 0b0000001#7 rs2 rs1 0b000#3 rd 0b0110011#7)
  | .mulh rd rs1 rs2 => .full (encR 0b0000001#7 rs2 rs1 0b001#3 rd 0b0110011#7)
  | .mulhsu rd rs1 rs2 => .full (encR 0b0000001#7 rs2 rs1 0b010#3 rd 0b0110011#7)
  | .mulhu rd rs1 rs2 => .full (encR 0b0000001#7 rs2 rs1 0b011#3 rd 0b0110011#7)
  | .div rd rs1 rs2 => .full (encR 0b0000001#7 rs2 rs1 0b100#3 rd 0b0110011#7)
  | .divu rd rs1 rs2 => .full (encR 0b0000001#7 rs2 rs1 0b101#3 rd 0b0110011#7)
  | .rem rd rs1 rs2 => .full (encR 0b0000001#7 rs2 rs1 0b110#3 rd 0b0110011#7)
  | .remu rd rs1 rs2 => .full (encR 0b0000001#7 rs2 rs1 0b111#3 rd 0b0110011#7)
  | .mulw rd rs1 rs2 => .full (encR 0b0000001#7 rs2 rs1 0b000#3 rd 0b0111011#7)
  | .divw rd rs1 rs2 => .full (encR 0b0000001#7 rs2 rs1 0b100#3 rd 0b0111011#7)
  | .divuw rd rs1 rs2 => .full (encR 0b0000001#7 rs2 rs1 0b101#3 rd 0b0111011#7)
  | .remw rd rs1 rs2 => .full (encR 0b0000001#7 rs2 rs1 0b110#3 rd 0b0111011#7)
  | .remuw rd rs1 rs2 => .full (encR 0b0000001#7 rs2 rs1 0b111#3 rd 0b0111011#7)
  | .lrW rd rs1 aq rl => .full (encAmo 0b00010#5 aq rl 0#5 rs1 0b010#3 rd 0b0101111#7)
  | .scW rd rs1 rs2 aq rl => .full (encAmo 0b00011#5 aq rl rs2 rs1 0b010#3 rd 0b0101111#7)
  | .amoaddW rd rs1 rs2 aq rl => .full (encAmo 0b00000#5 aq rl rs2 rs1 0b010#3 rd 0b0101111#7)
  | .amoswapW rd rs1 rs2 aq rl => .full (encAmo 0b00001#5 aq rl rs2 rs1 0b010#3 rd 0b0101111#7)
  | .amoxorW rd rs1 rs2 aq rl => .full (encAmo 0b00100#5 aq rl rs2 rs1 0b010#3 rd 0b0101111#7)
  | .amoorW rd rs1 rs2 aq rl => .full (encAmo 0b01000#5 aq rl rs2 rs1 0b010#3 rd 0b0101111#7)
  | .amoandW rd rs1 rs2 aq rl => .full (encAmo 0b01100#5 aq rl rs2 rs1 0b010#3 rd 0b0101111#7)
  | .amominW rd rs1 rs2 aq rl => .full (encAmo 0b10000#5 aq rl rs2 rs1 0b010#3 rd 0b0101111#7)
  | .amomaxW rd rs1 rs2 aq rl => .full (encAmo 0b10100#5 aq rl rs2 rs1 0b010#3 rd 0b0101111#7)
  | .amominuW rd rs1 rs2 aq rl => .full (encAmo 0b11000#5 aq rl rs2 rs1 0b010#3 rd 0b0101111#7)
  | .amomaxuW rd rs1 rs2 aq rl => .full (encAmo 0b11100#5 aq rl rs2 rs1 0b010#3 rd 0b0101111#7)
  | .lrD rd rs1 aq rl => .full (encAmo 0b00010#5 aq rl 0#5 rs1 0b011#3 rd 0b0101111#7)
  | .scD rd rs1 rs2 aq rl => .full (encAmo 0b00011#5 aq rl rs2 rs1 0b011#3 rd 0b0101111#7)
  | .amoaddD rd rs1 rs2 aq rl => .full (encAmo 0b00000#5 aq rl rs2 rs1 0b011#3 rd 0b0101111#7)
  | .amoswapD rd rs1 rs2 aq rl => .full (encAmo 0b00001#5 aq rl rs2 rs1 0b011#3 rd 0b0101111#7)
  | .amoxorD rd rs1 rs2 aq rl => .full (encAmo 0b00100#5 aq rl rs2 rs1 0b011#3 rd 0b0101111#7)
  | .amoorD rd rs1 rs2 aq rl => .full (encAmo 0b01000#5 aq rl rs2 rs1 0b011#3 rd 0b0101111#7)
  | .amoandD rd rs1 rs2 aq rl => .full (encAmo 0b01100#5 aq rl rs2 rs1 0b011#3 rd 0b0101111#7)
  | .amominD rd rs1 rs2 aq rl => .full (encAmo 0b10000#5 aq rl rs2 rs1 0b011#3 rd 0b0101111#7)
  | .amomaxD rd rs1 rs2 aq rl => .full (encAmo 0b10100#5 aq rl rs2 rs1 0b011#3 rd 0b0101111#7)
  | .amominuD rd rs1 rs2 aq rl => .full (encAmo 0b11000#5 aq rl rs2 rs1 0b011#3 rd 0b0101111#7)
  | .amomaxuD rd rs1 rs2 aq rl => .full (encAmo 0b11100#5 aq rl rs2 rs1 0b011#3 rd 0b0101111#7)
  | .flw rd rs1 imm => .full (encI imm rs1 0b010#3 rd 0b0000111#7)
  | .fsw rs1 rs2 imm => .full (encS imm rs2 rs1 0b010#3 0b0100111#7)
  | .fmaddS rd rs1 rs2 rs3 rm => .full (encR4 rs3 0b00#2 rs2 rs1 rm rd 0b1000011#7)
  | .fmsubS rd rs1 rs2 rs3 rm => .full (encR4 rs3 0b00#2 rs2 rs1 rm rd 0b1000111#7)
  | .fnmsubS rd rs1 rs2 rs3 rm => .full (encR4 rs3 0b00#2 rs2 rs1 rm rd 0b1001011#7)
  | .fnmaddS rd rs1 rs2 rs3 rm => .full (encR4 rs3 0b00#2 rs2 rs1 rm rd 0b1001111#7)
  | .faddS rd rs1 rs2 rm => .full (encR 0b0000000#7 rs2 rs1 rm rd 0b1010011#7)
  | .fsubS rd rs1 rs2 rm => .full (encR 0b0000100#7 rs2 rs1 rm rd 0b1010011#7)
  | .fmulS rd rs1 rs2 rm => .full (encR 0b0001000#7 rs2 rs1 rm rd 0b1010011#7)
  | .fdivS rd rs1 rs2 rm => .full (encR 0b0001100#7 rs2 rs1 rm rd 0b1010011#7)
  | .fsqrtS rd rs1 rm => .full (encR 0b0101100#7 0b00000#5 rs1 rm rd 0b1010011#7)
  | .fsgnjS rd rs1 rs2 => .full (encR 0b0010000#7 rs2 rs1 0b000#3 rd 0b1010011#7)
  | .fsgnjnS rd rs1 rs2 => .full (encR 0b0010000#7 rs2 rs1 0b001#3 rd 0b1010011#7)
  | .fsgnjxS rd rs1 rs2 => .full (encR 0b0010000#7 rs2 rs1 0b010#3 rd 0b1010011#7)
  | .fminS rd rs1 rs2 => .full (encR 0b0010100#7 rs2 rs1 0b000#3 rd 0b1010011#7)
  | .fmaxS rd rs1 rs2 => .full (encR 0b0010100#7 rs2 rs1 0b001#3 rd 0b1010011#7)
  | .feqS rd rs1 rs2 => .full (encR 0b1010000#7 rs2 rs1 0b010#3 rd 0b1010011#7)
  | .fltS rd rs1 rs2 => .full (encR 0b1010000#7 rs2 rs1 0b001#3 rd 0b1010011#7)
  | .fleS rd rs1 rs2 => .full (encR 0b1010000#7 rs2 rs1 0b000#3 rd 0b1010011#7)
  | .fclassS rd rs1 => .full (encR 0b1110000#7 0b00000#5 rs1 0b001#3 rd 0b1010011#7)
  | .fcvtWS rd rs1 rm => .full (encR 0b1100000#7 0b00000#5 rs1 rm rd 0b1010011#7)
  | .fcvtSW rd rs1 rm => .full (encR 0b1101000#7 0b00000#5 rs1 rm rd 0b1010011#7)
  | .fcvtWuS rd rs1 rm => .full (encR 0b1100000#7 0b00001#5 rs1 rm rd 0b1010011#7)
  | .fcvtSWu rd rs1 rm => .full (encR 0b1101000#7 0b00001#5 rs1 rm rd 0b1010011#7)
  | .fcvtLS rd rs1 rm => .full (encR 0b1100000#7 0b00010#5 rs1 rm rd 0b1010011#7)
  | .fcvtSL rd rs1 rm => .full (encR 0b1101000#7 0b00010#5 rs1 rm rd 0b1010011#7)
  | .fcvtLuS rd rs1 rm => .full (encR 0b1100000#7 0b00011#5 rs1 rm rd 0b1010011#7)
  | .fcvtSLu rd rs1 rm => .full (encR 0b1101000#7 0b00011#5 rs1 rm rd 0b1010011#7)
  | .fmvXW rd rs1 => .full (encR 0b1110000#7 0b00000#5 rs1 0b000#3 rd 0b1010011#7)
  | .fmvWX rd rs1 => .full (encR 0b1111000#7 0b00000#5 rs1 0b000#3 rd 0b1010011#7)
  | .fld rd rs1 imm => .full (encI imm rs1 0b011#3 rd 0b0000111#7)
  | .fsd rs1 rs2 imm => .full (encS imm rs2 rs1 0b011#3 0b0100111#7)
  | .fmaddD rd rs1 rs2 rs3 rm => .full (encR4 rs3 0b01#2 rs2 rs1 rm rd 0b1000011#7)
  | .fmsubD rd rs1 rs2 rs3 rm => .full (encR4 rs3 0b01#2 rs2 rs1 rm rd 0b1000111#7)
  | .fnmsubD rd rs1 rs2 rs3 rm => .full (encR4 rs3 0b01#2 rs2 rs1 rm rd 0b1001011#7)
  | .fnmaddD rd rs1 rs2 rs3 rm => .full (encR4 rs3 0b01#2 rs2 rs1 rm rd 0b1001111#7)
  | .faddD rd rs1 rs2 rm => .full (encR 0b0000001#7 rs2 rs1 rm rd 0b1010011#7)
  | .fsubD rd rs1 rs2 rm => .full (encR 0b0000101#7 rs2 rs1 rm rd 0b1010011#7)
  | .fmulD rd rs1 rs2 rm => .full (encR 0b0001001#7 rs2 rs1 rm rd 0b1010011#7)
  | .fdivD rd rs1 rs2 rm => .full (encR 0b0001101#7 rs2 rs1 rm rd 0b1010011#7)
  | .fsqrtD rd rs1 rm => .full (encR 0b0101101#7 0b00000#5 rs1 rm rd 0b1010011#7)
  | .fsgnjD rd rs1 rs2 => .full (encR 0b0010001#7 rs2 rs1 0b000#3 rd 0b1010011#7)
  | .fsgnjnD rd rs1 rs2 => .full (encR 0b0010001#7 rs2 rs1 0b001#3 rd 0b1010011#7)
  | .fsgnjxD rd rs1 rs2 => .full (encR 0b0010001#7 rs2 rs1 0b010#3 rd 0b1010011#7)
  | .fminD rd rs1 rs2 => .full (encR 0b0010101#7 rs2 rs1 0b000#3 rd 0b1010011#7)
  | .fmaxD rd rs1 rs2 => .full (encR 0b0010101#7 rs2 rs1 0b001#3 rd 0b1010011#7)
  | .feqD rd rs1 rs2 => .full (encR 0b1010001#7 rs2 rs1 0b010#3 rd 0b1010011#7)
  | .fltD rd rs1 rs2 => .full (encR 0b1010001#7 rs2 rs1 0b001#3 rd 0b1010011#7)
  | .fleD rd rs1 rs2 => .full (encR 0b1010001#7 rs2 rs1 0b000#3 rd 0b1010011#7)
  | .fclassD rd rs1 => .full (encR 0b1110001#7 0b00000#5 rs1 0b001#3 rd 0b1010011#7)
  | .fcvtWD rd rs1 rm => .full (encR 0b1100001#7 0b00000#5 rs1 rm rd 0b1010011#7)
  | .fcvtDW rd rs1 rm => .full (encR 0b1101001#7 0b00000#5 rs1 rm rd 0b1010011#7)
  | .fcvtWuD rd rs1 rm => .full (encR 0b1100001#7 0b00001#5 rs1 rm rd 0b1010011#7)
  | .fcvtDWu rd rs1 rm => .full (encR 0b1101001#7 0b00001#5 rs1 rm rd 0b1010011#7)
  | .fcvtLD rd rs1 rm => .full (encR 0b1100001#7 0b00010#5 rs1 rm rd 0b1010011#7)
  | .fcvtDL rd rs1 rm => .full (encR 0b1101001#7 0b00010#5 rs1 rm rd 0b1010011#7)
  | .fcvtLuD rd rs1 rm => .full (encR 0b1100001#7 0b00011#5 rs1 rm rd 0b1010011#7)
  | .fcvtDLu rd rs1 rm => .full (encR 0b1101001#7 0b00011#5 rs1 rm rd 0b1010011#7)
  | .fcvtSD rd rs1 rm => .full (encR 0b0100000#7 0b00001#5 rs1 rm rd 0b1010011#7)
  | .fcvtDS rd rs1 rm => .full (encR 0b0100001#7 0b00000#5 rs1 rm rd 0b1010011#7)
  | .fmvXD rd rs1 => .full (encR 0b1110001#7 0b00000#5 rs1 0b000#3 rd 0b1010011#7)
  | .fmvDX rd rs1 => .full (encR 0b1111001#7 0b00000#5 rs1 0b000#3 rd 0b1010011#7)
  | .cAddi4spn rd imm => .half (encCIW imm rd)
  | .cFld rd rs1 uimm => .half (encCD 0b001#3 uimm rs1 rd 0b00#2)
  | .cLw rd rs1 uimm => .half (encCW 0b010#3 uimm rs1 rd 0b00#2)
  | .cFlw rd rs1 uimm => .half (encCW 0b011#3 uimm rs1 rd 0b00#2)
  | .cLd rd rs1 uimm => .half (encCD 0b011#3 uimm rs1 rd 0b00#2)
  | .cFsd rs1 rs2 uimm => .half (encCD 0b101#3 uimm rs1 rs2 0b00#2)
  | .cSw rs1 rs2 uimm => .half (encCW 0b110#3 uimm rs1 rs2 0b00#2)
  | .cFsw rs1 rs2 uimm => .half (encCW 0b111#3 uimm rs1 rs2 0b00#2)
  | .cSd rs1 rs2 uimm => .half (encCD 0b111#3 uimm rs1 rs2 0b00#2)
  | .cNop imm => .half (encCI 0b000#3 imm 0#5 0b01#2)
  | .cAddi rd imm => .half (encCI 0b000#3 imm rd 0b01#2)
  | .cJal off => .half (encCJ 0b001#3 off 0b01#2)
  | .cAddiw rd imm => .half (encCI 0b001#3 imm rd 0b01#2)
  | .cLi rd imm => .half (encCI 0b010#3 imm rd 0b01#2)
  | .cAddi16sp imm => .half (encCAddi16sp imm)
  | .cLui rd imm => .half (encCI 0b011#3 imm rd 0b01#2)
  | .cSrli rd shamt => .half (encCBAlu 0b100#3 0b00#2 shamt rd 0b01#2)
  | .cSrai rd shamt => .half (encCBAlu 0b100#3 0b01#2 shamt rd 0b01#2)
  | .cAndi rd imm => .half (encCBAlu 0b100#3 0b10#2 imm rd 0b01#2)
  | .cSub rd rs2 => .half (encCA 0b100011#6 rd 0b00#2 rs2 0b01#2)
  | .cXor rd rs2 => .half (encCA 0b100011#6 rd 0b01#2 rs2 0b01#2)
  | .cOr rd rs2 => .half (encCA 0b100011#6 rd 0b10#2 rs2 0b01#2)
  | .cAnd rd rs2 => .half (encCA 0b100011#6 rd 0b11#2 rs2 0b01#2)
  | .cSubw rd rs2 => .half (encCA 0b100111#6 rd 0b00#2 rs2 0b01#2)
  | .cAddw rd rs2 => .half (encCA 0b100111#6 rd 0b01#2 rs2 0b01#2)
  | .cJ off => .half (encCJ 0b101#3 off 0b01#2)
  | .cBeqz rs1 off => .half (encCB 0b110#3 off rs1 0b01#2)
  | .cBnez rs1 off => .half (encCB 0b111#3 off rs1 0b01#2)
  | .cSlli rd shamt => .half (encCI 0b000#3 shamt rd 0b10#2)
  | .cFldsp rd uimm => .half (encCLdsp 0b001#3 uimm rd 0b10#2)
  | .cLwsp rd uimm => .half (encCLwsp 0b010#3 uimm rd 0b10#2)
  | .cFlwsp rd uimm => .half (encCLwsp 0b011#3 uimm rd 0b10#2)
  | .cLdsp rd uimm => .half (encCLdsp 0b011#3 uimm rd 0b10#2)
  | .cJr rs1 => .half (encCR 0b1000#4 rs1 0#5 0b10#2)
  | .cMv rd rs2 => .half (encCR 0b1000#4 rd rs2 0b10#2)
  | .cEbreak => .half (encCR 0b1001#4 0#5 0#5 0b10#2)
  | .cJalr rs1 => .half (encCR 0b1001#4 rs1 0#5 0b10#2)
  | .cAdd rd rs2 => .half (encCR 0b1001#4 rd rs2 0b10#2)
  | .cFsdsp rs2 uimm => .half (encCSdsp 0b101#3 uimm rs2 0b10#2)
  | .cSwsp rs2 uimm => .half (encCSwsp 0b110#3 uimm rs2 0b10#2)
  | .cFswsp rs2 uimm => .half (encCSwsp 0b111#3 uimm rs2 0b10#2)
  | .cSdsp rs2 uimm => .half (encCSdsp 0b111#3 uimm rs2 0b10#2)

/-! ## The opcode table as data (30_encoding.md R179) -/

/-- The row of an instruction: mask and match bits, XLEN and enable flags, as spec/opcode_table.json has them. -/
def Instr.row : Instr → Row
  | .lui _ _ => ⟨0x7F, 0x37, none, .base⟩
  | .auipc _ _ => ⟨0x7F, 0x17, none, .base⟩
  | .jal _ _ => ⟨0x7F, 0x6F, none, .base⟩
  | .jalr _ _ _ => ⟨0x707F, 0x67, none, .base⟩
  | .beq _ _ _ => ⟨0x707F, 0x63, none, .base⟩
  | .bne _ _ _ => ⟨0x707F, 0x1063, none, .base⟩
  | .blt _ _ _ => ⟨0x707F, 0x4063, none, .base⟩
  | .bge _ _ _ => ⟨0x707F, 0x5063, none, .base⟩
  | .bltu _ _ _ => ⟨0x707F, 0x6063, none, .base⟩
  | .bgeu _ _ _ => ⟨0x707F, 0x7063, none, .base⟩
  | .lb _ _ _ => ⟨0x707F, 0x3, none, .base⟩
  | .lh _ _ _ => ⟨0x707F, 0x1003, none, .base⟩
  | .lw _ _ _ => ⟨0x707F, 0x2003, none, .base⟩
  | .ld _ _ _ => ⟨0x707F, 0x3003, (some .rv64), .base⟩
  | .lbu _ _ _ => ⟨0x707F, 0x4003, none, .base⟩
  | .lhu _ _ _ => ⟨0x707F, 0x5003, none, .base⟩
  | .lwu _ _ _ => ⟨0x707F, 0x6003, (some .rv64), .base⟩
  | .sb _ _ _ => ⟨0x707F, 0x23, none, .base⟩
  | .sh _ _ _ => ⟨0x707F, 0x1023, none, .base⟩
  | .sw _ _ _ => ⟨0x707F, 0x2023, none, .base⟩
  | .sd _ _ _ => ⟨0x707F, 0x3023, (some .rv64), .base⟩
  | .addi _ _ _ => ⟨0x707F, 0x13, none, .base⟩
  | .slti _ _ _ => ⟨0x707F, 0x2013, none, .base⟩
  | .sltiu _ _ _ => ⟨0x707F, 0x3013, none, .base⟩
  | .xori _ _ _ => ⟨0x707F, 0x4013, none, .base⟩
  | .ori _ _ _ => ⟨0x707F, 0x6013, none, .base⟩
  | .andi _ _ _ => ⟨0x707F, 0x7013, none, .base⟩
  | .slli _ _ _ => ⟨0xFC00707F, 0x1013, none, .base⟩
  | .srli _ _ _ => ⟨0xFC00707F, 0x5013, none, .base⟩
  | .srai _ _ _ => ⟨0xFC00707F, 0x40005013, none, .base⟩
  | .add _ _ _ => ⟨0xFE00707F, 0x33, none, .base⟩
  | .sub _ _ _ => ⟨0xFE00707F, 0x40000033, none, .base⟩
  | .sll _ _ _ => ⟨0xFE00707F, 0x1033, none, .base⟩
  | .slt _ _ _ => ⟨0xFE00707F, 0x2033, none, .base⟩
  | .sltu _ _ _ => ⟨0xFE00707F, 0x3033, none, .base⟩
  | .xor _ _ _ => ⟨0xFE00707F, 0x4033, none, .base⟩
  | .srl _ _ _ => ⟨0xFE00707F, 0x5033, none, .base⟩
  | .sra _ _ _ => ⟨0xFE00707F, 0x40005033, none, .base⟩
  | .or _ _ _ => ⟨0xFE00707F, 0x6033, none, .base⟩
  | .and _ _ _ => ⟨0xFE00707F, 0x7033, none, .base⟩
  | .addiw _ _ _ => ⟨0x707F, 0x1B, (some .rv64), .base⟩
  | .slliw _ _ _ => ⟨0xFE00707F, 0x101B, (some .rv64), .base⟩
  | .srliw _ _ _ => ⟨0xFE00707F, 0x501B, (some .rv64), .base⟩
  | .sraiw _ _ _ => ⟨0xFE00707F, 0x4000501B, (some .rv64), .base⟩
  | .addw _ _ _ => ⟨0xFE00707F, 0x3B, (some .rv64), .base⟩
  | .subw _ _ _ => ⟨0xFE00707F, 0x4000003B, (some .rv64), .base⟩
  | .sllw _ _ _ => ⟨0xFE00707F, 0x103B, (some .rv64), .base⟩
  | .srlw _ _ _ => ⟨0xFE00707F, 0x503B, (some .rv64), .base⟩
  | .sraw _ _ _ => ⟨0xFE00707F, 0x4000503B, (some .rv64), .base⟩
  | .fence _ _ _ _ _ => ⟨0x707F, 0xF, none, .base⟩
  | .fenceI _ _ _ => ⟨0x707F, 0x100F, none, .base⟩
  | .ecall => ⟨0xFFFFFFFF, 0x73, none, .base⟩
  | .ebreak => ⟨0xFFFFFFFF, 0x100073, none, .base⟩
  | .csrrw _ _ _ => ⟨0x707F, 0x1073, none, .base⟩
  | .csrrs _ _ _ => ⟨0x707F, 0x2073, none, .base⟩
  | .csrrc _ _ _ => ⟨0x707F, 0x3073, none, .base⟩
  | .csrrwi _ _ _ => ⟨0x707F, 0x5073, none, .base⟩
  | .csrrsi _ _ _ => ⟨0x707F, 0x6073, none, .base⟩
  | .csrrci _ _ _ => ⟨0x707F, 0x7073, none, .base⟩
  | .sret => ⟨0xFFFFFFFF, 0x10200073, none, .base⟩
  | .mret => ⟨0xFFFFFFFF, 0x30200073, none, .base⟩
  | .wfi => ⟨0xFFFFFFFF, 0x10500073, none, .base⟩
  | .sfenceVma _ _ => ⟨0xFE007FFF, 0x12000073, none, .base⟩
  | .mul _ _ _ => ⟨0xFE00707F, 0x2000033, none, .m⟩
  | .mulh _ _ _ => ⟨0xFE00707F, 0x2001033, none, .m⟩
  | .mulhsu _ _ _ => ⟨0xFE00707F, 0x2002033, none, .m⟩
  | .mulhu _ _ _ => ⟨0xFE00707F, 0x2003033, none, .m⟩
  | .div _ _ _ => ⟨0xFE00707F, 0x2004033, none, .m⟩
  | .divu _ _ _ => ⟨0xFE00707F, 0x2005033, none, .m⟩
  | .rem _ _ _ => ⟨0xFE00707F, 0x2006033, none, .m⟩
  | .remu _ _ _ => ⟨0xFE00707F, 0x2007033, none, .m⟩
  | .mulw _ _ _ => ⟨0xFE00707F, 0x200003B, (some .rv64), .m⟩
  | .divw _ _ _ => ⟨0xFE00707F, 0x200403B, (some .rv64), .m⟩
  | .divuw _ _ _ => ⟨0xFE00707F, 0x200503B, (some .rv64), .m⟩
  | .remw _ _ _ => ⟨0xFE00707F, 0x200603B, (some .rv64), .m⟩
  | .remuw _ _ _ => ⟨0xFE00707F, 0x200703B, (some .rv64), .m⟩
  | .lrW _ _ _ _ => ⟨0xF9F0707F, 0x1000202F, none, .a⟩
  | .scW _ _ _ _ _ => ⟨0xF800707F, 0x1800202F, none, .a⟩
  | .amoaddW _ _ _ _ _ => ⟨0xF800707F, 0x202F, none, .a⟩
  | .amoswapW _ _ _ _ _ => ⟨0xF800707F, 0x800202F, none, .a⟩
  | .amoxorW _ _ _ _ _ => ⟨0xF800707F, 0x2000202F, none, .a⟩
  | .amoorW _ _ _ _ _ => ⟨0xF800707F, 0x4000202F, none, .a⟩
  | .amoandW _ _ _ _ _ => ⟨0xF800707F, 0x6000202F, none, .a⟩
  | .amominW _ _ _ _ _ => ⟨0xF800707F, 0x8000202F, none, .a⟩
  | .amomaxW _ _ _ _ _ => ⟨0xF800707F, 0xA000202F, none, .a⟩
  | .amominuW _ _ _ _ _ => ⟨0xF800707F, 0xC000202F, none, .a⟩
  | .amomaxuW _ _ _ _ _ => ⟨0xF800707F, 0xE000202F, none, .a⟩
  | .lrD _ _ _ _ => ⟨0xF9F0707F, 0x1000302F, (some .rv64), .a⟩
  | .scD _ _ _ _ _ => ⟨0xF800707F, 0x1800302F, (some .rv64), .a⟩
  | .amoaddD _ _ _ _ _ => ⟨0xF800707F, 0x302F, (some .rv64), .a⟩
  | .amoswapD _ _ _ _ _ => ⟨0xF800707F, 0x800302F, (some .rv64), .a⟩
  | .amoxorD _ _ _ _ _ => ⟨0xF800707F, 0x2000302F, (some .rv64), .a⟩
  | .amoorD _ _ _ _ _ => ⟨0xF800707F, 0x4000302F, (some .rv64), .a⟩
  | .amoandD _ _ _ _ _ => ⟨0xF800707F, 0x6000302F, (some .rv64), .a⟩
  | .amominD _ _ _ _ _ => ⟨0xF800707F, 0x8000302F, (some .rv64), .a⟩
  | .amomaxD _ _ _ _ _ => ⟨0xF800707F, 0xA000302F, (some .rv64), .a⟩
  | .amominuD _ _ _ _ _ => ⟨0xF800707F, 0xC000302F, (some .rv64), .a⟩
  | .amomaxuD _ _ _ _ _ => ⟨0xF800707F, 0xE000302F, (some .rv64), .a⟩
  | .flw _ _ _ => ⟨0x707F, 0x2007, none, .f⟩
  | .fsw _ _ _ => ⟨0x707F, 0x2027, none, .f⟩
  | .fmaddS _ _ _ _ _ => ⟨0x600007F, 0x43, none, .f⟩
  | .fmsubS _ _ _ _ _ => ⟨0x600007F, 0x47, none, .f⟩
  | .fnmsubS _ _ _ _ _ => ⟨0x600007F, 0x4B, none, .f⟩
  | .fnmaddS _ _ _ _ _ => ⟨0x600007F, 0x4F, none, .f⟩
  | .faddS _ _ _ _ => ⟨0xFE00007F, 0x53, none, .f⟩
  | .fsubS _ _ _ _ => ⟨0xFE00007F, 0x8000053, none, .f⟩
  | .fmulS _ _ _ _ => ⟨0xFE00007F, 0x10000053, none, .f⟩
  | .fdivS _ _ _ _ => ⟨0xFE00007F, 0x18000053, none, .f⟩
  | .fsqrtS _ _ _ => ⟨0xFFF0007F, 0x58000053, none, .f⟩
  | .fsgnjS _ _ _ => ⟨0xFE00707F, 0x20000053, none, .f⟩
  | .fsgnjnS _ _ _ => ⟨0xFE00707F, 0x20001053, none, .f⟩
  | .fsgnjxS _ _ _ => ⟨0xFE00707F, 0x20002053, none, .f⟩
  | .fminS _ _ _ => ⟨0xFE00707F, 0x28000053, none, .f⟩
  | .fmaxS _ _ _ => ⟨0xFE00707F, 0x28001053, none, .f⟩
  | .feqS _ _ _ => ⟨0xFE00707F, 0xA0002053, none, .f⟩
  | .fltS _ _ _ => ⟨0xFE00707F, 0xA0001053, none, .f⟩
  | .fleS _ _ _ => ⟨0xFE00707F, 0xA0000053, none, .f⟩
  | .fclassS _ _ => ⟨0xFFF0707F, 0xE0001053, none, .f⟩
  | .fcvtWS _ _ _ => ⟨0xFFF0007F, 0xC0000053, none, .f⟩
  | .fcvtSW _ _ _ => ⟨0xFFF0007F, 0xD0000053, none, .f⟩
  | .fcvtWuS _ _ _ => ⟨0xFFF0007F, 0xC0100053, none, .f⟩
  | .fcvtSWu _ _ _ => ⟨0xFFF0007F, 0xD0100053, none, .f⟩
  | .fcvtLS _ _ _ => ⟨0xFFF0007F, 0xC0200053, (some .rv64), .f⟩
  | .fcvtSL _ _ _ => ⟨0xFFF0007F, 0xD0200053, (some .rv64), .f⟩
  | .fcvtLuS _ _ _ => ⟨0xFFF0007F, 0xC0300053, (some .rv64), .f⟩
  | .fcvtSLu _ _ _ => ⟨0xFFF0007F, 0xD0300053, (some .rv64), .f⟩
  | .fmvXW _ _ => ⟨0xFFF0707F, 0xE0000053, none, .f⟩
  | .fmvWX _ _ => ⟨0xFFF0707F, 0xF0000053, none, .f⟩
  | .fld _ _ _ => ⟨0x707F, 0x3007, none, .d⟩
  | .fsd _ _ _ => ⟨0x707F, 0x3027, none, .d⟩
  | .fmaddD _ _ _ _ _ => ⟨0x600007F, 0x2000043, none, .d⟩
  | .fmsubD _ _ _ _ _ => ⟨0x600007F, 0x2000047, none, .d⟩
  | .fnmsubD _ _ _ _ _ => ⟨0x600007F, 0x200004B, none, .d⟩
  | .fnmaddD _ _ _ _ _ => ⟨0x600007F, 0x200004F, none, .d⟩
  | .faddD _ _ _ _ => ⟨0xFE00007F, 0x2000053, none, .d⟩
  | .fsubD _ _ _ _ => ⟨0xFE00007F, 0xA000053, none, .d⟩
  | .fmulD _ _ _ _ => ⟨0xFE00007F, 0x12000053, none, .d⟩
  | .fdivD _ _ _ _ => ⟨0xFE00007F, 0x1A000053, none, .d⟩
  | .fsqrtD _ _ _ => ⟨0xFFF0007F, 0x5A000053, none, .d⟩
  | .fsgnjD _ _ _ => ⟨0xFE00707F, 0x22000053, none, .d⟩
  | .fsgnjnD _ _ _ => ⟨0xFE00707F, 0x22001053, none, .d⟩
  | .fsgnjxD _ _ _ => ⟨0xFE00707F, 0x22002053, none, .d⟩
  | .fminD _ _ _ => ⟨0xFE00707F, 0x2A000053, none, .d⟩
  | .fmaxD _ _ _ => ⟨0xFE00707F, 0x2A001053, none, .d⟩
  | .feqD _ _ _ => ⟨0xFE00707F, 0xA2002053, none, .d⟩
  | .fltD _ _ _ => ⟨0xFE00707F, 0xA2001053, none, .d⟩
  | .fleD _ _ _ => ⟨0xFE00707F, 0xA2000053, none, .d⟩
  | .fclassD _ _ => ⟨0xFFF0707F, 0xE2001053, none, .d⟩
  | .fcvtWD _ _ _ => ⟨0xFFF0007F, 0xC2000053, none, .d⟩
  | .fcvtDW _ _ _ => ⟨0xFFF0007F, 0xD2000053, none, .d⟩
  | .fcvtWuD _ _ _ => ⟨0xFFF0007F, 0xC2100053, none, .d⟩
  | .fcvtDWu _ _ _ => ⟨0xFFF0007F, 0xD2100053, none, .d⟩
  | .fcvtLD _ _ _ => ⟨0xFFF0007F, 0xC2200053, (some .rv64), .d⟩
  | .fcvtDL _ _ _ => ⟨0xFFF0007F, 0xD2200053, (some .rv64), .d⟩
  | .fcvtLuD _ _ _ => ⟨0xFFF0007F, 0xC2300053, (some .rv64), .d⟩
  | .fcvtDLu _ _ _ => ⟨0xFFF0007F, 0xD2300053, (some .rv64), .d⟩
  | .fcvtSD _ _ _ => ⟨0xFFF0007F, 0x40100053, none, .d⟩
  | .fcvtDS _ _ _ => ⟨0xFFF0007F, 0x42000053, none, .d⟩
  | .fmvXD _ _ => ⟨0xFFF0707F, 0xE2000053, (some .rv64), .d⟩
  | .fmvDX _ _ => ⟨0xFFF0707F, 0xF2000053, (some .rv64), .d⟩
  | .cAddi4spn _ _ => ⟨0xE003, 0x0, none, .c⟩
  | .cFld _ _ _ => ⟨0xE003, 0x2000, none, .cd⟩
  | .cLw _ _ _ => ⟨0xE003, 0x4000, none, .c⟩
  | .cFlw _ _ _ => ⟨0xE003, 0x6000, (some .rv32), .cf⟩
  | .cLd _ _ _ => ⟨0xE003, 0x6000, (some .rv64), .c⟩
  | .cFsd _ _ _ => ⟨0xE003, 0xA000, none, .cd⟩
  | .cSw _ _ _ => ⟨0xE003, 0xC000, none, .c⟩
  | .cFsw _ _ _ => ⟨0xE003, 0xE000, (some .rv32), .cf⟩
  | .cSd _ _ _ => ⟨0xE003, 0xE000, (some .rv64), .c⟩
  | .cNop _ => ⟨0xEF83, 0x1, none, .c⟩
  | .cAddi _ _ => ⟨0xE003, 0x1, none, .c⟩
  | .cJal _ => ⟨0xE003, 0x2001, (some .rv32), .c⟩
  | .cAddiw _ _ => ⟨0xE003, 0x2001, (some .rv64), .c⟩
  | .cLi _ _ => ⟨0xE003, 0x4001, none, .c⟩
  | .cAddi16sp _ => ⟨0xEF83, 0x6101, none, .c⟩
  | .cLui _ _ => ⟨0xE003, 0x6001, none, .c⟩
  | .cSrli _ _ => ⟨0xEC03, 0x8001, none, .c⟩
  | .cSrai _ _ => ⟨0xEC03, 0x8401, none, .c⟩
  | .cAndi _ _ => ⟨0xEC03, 0x8801, none, .c⟩
  | .cSub _ _ => ⟨0xFC63, 0x8C01, none, .c⟩
  | .cXor _ _ => ⟨0xFC63, 0x8C21, none, .c⟩
  | .cOr _ _ => ⟨0xFC63, 0x8C41, none, .c⟩
  | .cAnd _ _ => ⟨0xFC63, 0x8C61, none, .c⟩
  | .cSubw _ _ => ⟨0xFC63, 0x9C01, (some .rv64), .c⟩
  | .cAddw _ _ => ⟨0xFC63, 0x9C21, (some .rv64), .c⟩
  | .cJ _ => ⟨0xE003, 0xA001, none, .c⟩
  | .cBeqz _ _ => ⟨0xE003, 0xC001, none, .c⟩
  | .cBnez _ _ => ⟨0xE003, 0xE001, none, .c⟩
  | .cSlli _ _ => ⟨0xE003, 0x2, none, .c⟩
  | .cFldsp _ _ => ⟨0xE003, 0x2002, none, .cd⟩
  | .cLwsp _ _ => ⟨0xE003, 0x4002, none, .c⟩
  | .cFlwsp _ _ => ⟨0xE003, 0x6002, (some .rv32), .cf⟩
  | .cLdsp _ _ => ⟨0xE003, 0x6002, (some .rv64), .c⟩
  | .cJr _ => ⟨0xF07F, 0x8002, none, .c⟩
  | .cMv _ _ => ⟨0xF003, 0x8002, none, .c⟩
  | .cEbreak => ⟨0xFFFF, 0x9002, none, .c⟩
  | .cJalr _ => ⟨0xF07F, 0x9002, none, .c⟩
  | .cAdd _ _ => ⟨0xF003, 0x9002, none, .c⟩
  | .cFsdsp _ _ => ⟨0xE003, 0xA002, none, .cd⟩
  | .cSwsp _ _ => ⟨0xE003, 0xC002, none, .c⟩
  | .cFswsp _ _ => ⟨0xE003, 0xE002, (some .rv32), .cf⟩
  | .cSdsp _ _ => ⟨0xE003, 0xE002, (some .rv64), .c⟩

/-- The constraints of the table that depend on XLEN: shamt[5] = 0 when XLEN = 32 (R161, R193). -/
def Instr.shamtOk (x : XLen) : Instr → Bool
  | .slli _ _ k | .srli _ _ k | .srai _ _ k | .cSlli _ k | .cSrli _ k | .cSrai _ k => x == .rv64 || !k.getLsbD 5
  | _ => true

/-- The instruction exists in this configuration: conditions (b), (c) and (d) of R179. -/
def Instr.enabled (cfg : Config) (i : Instr) : Bool :=
  (i.row.xlen == none || i.row.xlen == some cfg.xlen) && cfg.extOn i.row.ext && i.shamtOk cfg.xlen

/-! ## The host's probe -/

/-- The bytes of an instruction of `nbits` bits as the hardware stores them, the bits above `nbits` zero, up to four bytes
(20_memory.md R106). -/
def tableWordBytes (nbits w : Nat) : List Byte :=
  let v := w % 2 ^ nbits
  [BitVec.ofNat 8 v, BitVec.ofNat 8 (v / 2 ^ 8), BitVec.ofNat 8 (v / 2 ^ 16), BitVec.ofNat 8 (v / 2 ^ 24)]

/-- What the decoder of the hart that `State.reset` creates reads from an instruction word (notes/assumptions/19.md). -/
def decodeTableWord (nbits w : Nat) : Option Instr :=
  match decodeBytes Config.atReset (tableWordBytes nbits w) with
  | .ok (i, _) => some i
  | .error _ => none

end Sys2Proof
end

