-- ==== Sys2Proof/Machine/State.lean ====
section
/-! DEFINITION. The state of one hart and of the external agents it talks to, as plain data, and its reset
(10_state.md section 7, 70_reset_and_hazards.md R851). INVENTORY.md lists every field with its rule and reset value. -/

namespace Sys2Proof.Machine

/-- Memory: (address, byte) pairs with strictly rising addresses, none equal to what an unlisted address reads as.
The addresses are effective addresses (notes/assumptions/36.md). -/
abbrev Memory := List Host.Cell

/-- The exception causes the block raises (60_exceptions.md R801). -/
inductive Cause where
  | instrMisaligned
  | instrAccessFault
  | illegalInstruction
  | breakpoint
  | loadMisaligned
  | loadAccessFault
  | storeMisaligned
  | storeAccessFault
  | ecallFromU
  | ecallFromS
  | ecallFromM
  | instrPageFault
  | loadPageFault
  | storePageFault
  deriving DecidableEq, Repr

/-- A call Trap(cause, tval) on the CSR/trap port, with the pc it was made at (R800, R811). -/
structure TrapCall where
  cause : Cause
  tval  : Word
  pc    : Word
  deriving DecidableEq, Repr

/-- The machine has no fault: every error of the block is a guest trap, and the block never stops (60_exceptions.md R800,
70_reset_and_hazards.md R871). No constructor, so no step answers `fault` (safe). -/
inductive Fault where
  deriving DecidableEq, Repr

/-- Why the machine gives no next state. -/
inductive Refusal where
  /-- Raised by an arm of `exec` that has no meaning yet; none is left (safe). -/
  | notModelled (mnemonic : String)
  /-- Raised by a host configuration call made inside a batch (70_reset_and_hazards.md R865); no instruction raises it
  (safe). -/
  | configInsideBatch
  deriving DecidableEq, Repr

/-- The state. Register slots are 64 bits wide; with XLEN = 32 their low 32 bits are the register. -/
structure State where
  cfg       : Config
  ftable    : List (List FullHandler)
  ctable    : List HalfHandler
  x         : Vector Word 32
  pc        : Word
  f         : Vector Word 32
  fflags    : BitVec 5
  frm       : BitVec 3
  fs        : FS
  resvValid : Bool
  resvAddr  : Word
  mem       : Memory
  map       : List Region
  unit      : TrapUnit
  budget    : Option Nat
  eventFlag : Bool
  trapCall  : Option TrapCall
  draws     : Nat
  deriving DecidableEq, Repr

/-- XLEN in bits. -/
def State.w (s : State) : Nat := s.cfg.xlen.bits

/-- A hart created with a configuration (R850 to R852). The CSR/trap unit starts as the standard one does: of an unspecified
unit this is a DESIGN CHOICE (notes/assumptions/7.md). -/
def State.create (cfg : Config) : State where
  cfg := cfg
  ftable := buildFull cfg
  ctable := buildHalf cfg
  x := Vector.replicate 32 0
  pc := cfg.resetPc
  f := Vector.replicate 32 0
  fflags := 0
  frm := 0
  fs := .off
  resvValid := false
  resvAddr := 0
  mem := []
  map := []
  unit := TrapUnit.atReset
  budget := none
  eventFlag := false
  trapCall := none
  draws := 0

/-- The machine right after reset, which is the creation of the hart (R850). -/
def State.reset : State := State.create Config.atReset

end Sys2Proof.Machine
end

