-- ==== Sys2Proof/Machine/Ops.lean ====
section
/-! DEFINITION. The named operations over registers, memory, the reservation and the external CSR/trap unit. Taking an
exception is one operation, `State.raise`, and the return from one stands beside it (60_exceptions.md R811 to R814). -/

namespace Sys2Proof.Machine

/-! ## Registers (10_state.md R41 to R53) -/

/-- `x[i]` at XLEN bits: 0 for x0 (R43). -/
def State.rdX (s : State) (w : Nat) (i : Reg) : BitVec w :=
  if i = 0 then 0 else (s.x[i.toNat]'i.isLt).setWidth w

/-- `x[i] <- v`: no effect for x0 (R44). -/
def State.wrX (s : State) (i : Reg) {w : Nat} (v : BitVec w) : State :=
  if i = 0 then s else { s with x := s.x.set i.toNat (v.setWidth 64) i.isLt }

/-- The raw 64 bits of `f[i]` (R53). -/
def State.rdF (s : State) (i : Reg) : Word := s.f[i.toNat]'i.isLt

/-- `f[i] <- v`, with FS set to Dirty in the same step (47_fp_common.md R611). -/
def State.wrF (s : State) (i : Reg) (v : Word) : State :=
  { s with f := s.f.set i.toNat v i.isLt, fs := .dirty }

/-- `pc` at XLEN bits (R47). -/
def State.rdPc (s : State) (w : Nat) : BitVec w := s.pc.setWidth w

/-- `pc <- target`. -/
def State.jump (s : State) {w : Nat} (target : BitVec w) : State := { s with pc := target.setWidth 64 }

/-- The address of the next sequential instruction, modulo 2^XLEN (R48). -/
def State.nextPc (s : State) (w len : Nat) : BitVec w := s.rdPc w + BitVec.ofNat w len

/-- The default advance of pc (R48). -/
def State.advance (s : State) (len : Nat) : State := s.jump (s.nextPc s.w len)

/-! ## Memory (20_memory.md) -/

/-- What an unlisted address reads as: DESIGN CHOICE 0, unsafe (notes/assumptions/5.md). -/
def Memory.unlisted : Byte := 0

/-- The canonical form: addresses strictly rising, no entry equal to what an unlisted address reads as. -/
def Memory.wf : Memory → Bool
  | [] => true
  | (a, b) :: m => b != Memory.unlisted && m.all (fun c => decide (a < c.1)) && Memory.wf m

/-- The byte at an address. -/
def Memory.read : Memory → Nat → Byte
  | [], _ => Memory.unlisted
  | (k, b) :: m, a => if k = a then b else Memory.read m a

/-- Put a byte at an address, keeping the canonical form. -/
def Memory.write : Memory → Nat → Byte → Memory
  | [], a, v => if v = Memory.unlisted then [] else [(a, v)]
  | (k, b) :: m, a, v =>
    if a < k then (if v = Memory.unlisted then (k, b) :: m else (a, v) :: (k, b) :: m)
    else if a = k then (if v = Memory.unlisted then m else (a, v) :: m)
    else (k, b) :: Memory.write m a v

/-- Store bytes one after the other at a list of addresses. -/
def storeBytes (m : Memory) : List Nat → List Byte → Memory
  | a :: as, b :: bs => storeBytes (m.write a b) as bs
  | _, _ => m

/-- The kinds of access a memory-port operation makes (60_exceptions.md R805). -/
inductive Access where
  | fetch
  | read
  | write
  deriving DecidableEq, Repr

/-- A region's verdict on a kind of access. -/
def regionVerdict (r : Region) : Access → Verdict
  | .fetch => r.fetch
  | .read => r.read
  | .write => r.write

/-- How the memory system answers an access to one byte: the first region that holds it decides, an address in no region
is RAM (DESIGN CHOICE, notes/assumptions/9.md). -/
def State.verdict (s : State) (k : Access) (a : Nat) : Verdict :=
  match s.map.find? (fun r => decide (r.base ≤ a ∧ a < r.base + r.size)) with
  | some r => regionVerdict r k
  | none => .ram

/-- The addresses of the n bytes at a, each modulo 2^XLEN (20_memory.md R101). -/
def byteAddrs {w : Nat} (a : BitVec w) (n : Nat) : List Nat :=
  (List.range n).map fun i => (a + BitVec.ofNat w i).toNat

/-- The kind of the fault of an access: that of its first failing byte. An access fails exactly when one of its bytes lies
where the map fails it, whatever its width and alignment are: DESIGN CHOICE, both, the port's answer being open
(notes/assumptions/11.md). -/
def State.portFault (s : State) (k : Access) (as : List Nat) : Option PortFault :=
  as.findSome? fun a =>
    match s.verdict k a with
    | .fail f => some f
    | _ => none

/-- The byte an access reads: a device answers any value (notes/assumptions/10.md). Memory is keyed by the effective address,
so two addresses never name one byte and no call on the unit changes what one reads: DESIGN CHOICE, translation being the
memory system's (notes/assumptions/36.md). -/
def State.readByte (s : State) (k : Access) (a : Nat) : Byte :=
  match s.verdict k a with
  | .device => match k with
    | .fetch => Config.fetchByte s.draws a
    | _ => Config.deviceByte s.draws a
  | _ => s.mem.read a

/-- The little-endian value of the bytes at a list of addresses (20_memory.md R105). -/
def State.readLE (s : State) (k : Access) : List Nat → Nat
  | [] => 0
  | a :: as => (s.readByte k a).toNat + 256 * s.readLE k as

/-- Write one byte; a device takes it and memory keeps its bytes (notes/assumptions/10.md). -/
def State.writeByte (s : State) (a : Nat) (v : Byte) : State :=
  match s.verdict .write a with
  | .ram => { s with mem := s.mem.write a v }
  | _ => s

/-- Write a value little-endian at a list of addresses. -/
def State.writeLE (s : State) : List Nat → Nat → State
  | [], _ => s
  | a :: as, v => (s.writeByte a (BitVec.ofNat 8 v)).writeLE as (v / 256)

/-- The reservation block holds the byte (46_atomic.md R571, R572 b). -/
def State.inResv (s : State) (a : Nat) : Bool :=
  decide (s.resvAddr.toNat ≤ a ∧ a < s.resvAddr.toNat + s.cfg.resvGranule)

/-- A write to these bytes clears the reservation if it touches the block (R572 b). -/
def State.breakResv (s : State) (as : List Nat) : State :=
  { s with resvValid := s.resvValid && !as.any s.inResv }

/-- MemRead(a, n) (00_scope.md R13, R21). -/
def State.memRead (s : State) {w : Nat} (a : BitVec w) (n : Nat) : Except PortFault (BitVec (8 * n)) :=
  match s.portFault .read (byteAddrs a n) with
  | some f => .error f
  | none => .ok (BitVec.ofNat (8 * n) (s.readLE .read (byteAddrs a n)))

/-- MemWrite(a, n, v): it writes all bytes or none, and clears the reservation it touches. -/
def State.memWrite (s : State) {w : Nat} (a : BitVec w) (n : Nat) (v : BitVec (8 * n)) : Except PortFault State :=
  match s.portFault .write (byteAddrs a n) with
  | some f => .error f
  | none => .ok ((s.writeLE (byteAddrs a n) v.toNat).breakResv (byteAddrs a n))

/-- MemAMO(a, n, g): read and write as one step (R113); a failing one does neither (R103). It fails exactly when a read or
a write of its bytes would, and with the kind of the read half where that half fails: DESIGN CHOICE, the spec giving MemAMO
one kind and not saying which (notes/assumptions/11.md). -/
def State.memAmo (s : State) {w : Nat} (a : BitVec w) (n : Nat) (g : BitVec (8 * n) → BitVec (8 * n)) :
    Except PortFault (BitVec (8 * n) × State) :=
  match s.memRead a n with
  | .error f => .error f
  | .ok old =>
    match s.memWrite a n (g old) with
    | .error f => .error f
    | .ok t => .ok (old, t)

/-- Fetch16(a) (20_memory.md R106). -/
def State.fetch16 (s : State) {w : Nat} (a : BitVec w) : Except PortFault (BitVec 16) :=
  match s.portFault .fetch (byteAddrs a 2) with
  | some f => .error f
  | none => .ok (BitVec.ofNat 16 (s.readLE .fetch (byteAddrs a 2)))

/-! ## The external CSR/trap unit: trap entry and return (60_exceptions.md R812 to R816) -/

/-- The cause codes (R801). -/
def Cause.code : Cause → Nat
  | .instrMisaligned => 0
  | .instrAccessFault => 1
  | .illegalInstruction => 2
  | .breakpoint => 3
  | .loadMisaligned => 4
  | .loadAccessFault => 5
  | .storeMisaligned => 6
  | .storeAccessFault => 7
  | .ecallFromU => 8
  | .ecallFromS => 9
  | .ecallFromM => 11
  | .instrPageFault => 12
  | .loadPageFault => 13
  | .storePageFault => 15

/-- The cause of a memory-port failure, by access and kind (R805). -/
def faultCause : Access → PortFault → Cause
  | .fetch, .access => .instrAccessFault
  | .fetch, .page => .instrPageFault
  | .read, .access => .loadAccessFault
  | .read, .page => .loadPageFault
  | .write, .access => .storeAccessFault
  | .write, .page => .storePageFault

/-- The cause of an environment call (R806). -/
def ecallCause : Priv → Cause
  | .user => .ecallFromU
  | .supervisor => .ecallFromS
  | .machine => .ecallFromM

/-- xtvec.BASE as an address: the low two bits are MODE (PRESUMED layout, notes/assumptions/6.md). -/
def tvecBase (tvec : Word) : Word := tvec &&& ~~~3#64

/-- The exception pc as it is read and returned to: bit 0 is 0, and bit 1 too when IALIGN = 32, so that the unit
respects 10_state.md R49 (PRESUMED, notes/assumptions/22.md). -/
def maskEpc (cfg : Config) (v : Word) : Word := if cfg.cEn then v &&& ~~~1#64 else v &&& ~~~3#64

/-- A trap goes to S-mode: its bit of the delegation register is set (R812, R815) and it was raised below M-mode, which the
spec does not ask (PRESUMED, notes/assumptions/37.md). -/
def delegated (u : TrapUnit) (deleg : Word) (code : Nat) : Bool := u.priv != .machine && deleg.getLsbD code

/-- Entry into M-mode (R812). -/
def enterM (u : TrapUnit) (cause tval pc : Word) : TrapUnit :=
  { u with mepc := pc, mcause := cause, mtval := tval, mpie := u.mie, mie := false, mpp := u.priv, priv := .machine }

/-- Entry into S-mode, in the same way (R812). -/
def enterS (u : TrapUnit) (cause tval pc : Word) : TrapUnit :=
  { u with sepc := pc, scause := cause, stval := tval, spie := u.sie, sie := false,
           spp := u.priv == .supervisor, priv := .supervisor }

/-- The standard unit takes a synchronous exception. -/
def unitException (u : TrapUnit) (code : Nat) (tval pc : Word) : TrapUnit :=
  if delegated u u.medeleg code then enterS u (BitVec.ofNat 64 code) tval pc
  else enterM u (BitVec.ofNat 64 code) tval pc

/-- Where the standard unit sends a synchronous exception: BASE, never the vectored offset (R812). -/
def exceptionTarget (u : TrapUnit) (code : Nat) : Word :=
  if delegated u u.medeleg code then tvecBase u.stvec else tvecBase u.mtvec

/-- What an unspecified unit may leave behind when it is called: a state of its own and a memory map, both free values
(notes/assumptions/7.md). -/
def State.unitMoves (s : State) : State := { s with unit := Config.unitAfter s.draws, map := Config.mapAfter s.draws }

/-- The same for a call that raises no exception: FS, which is a field of the unit, is a free value too
(10_state.md R57, notes/assumptions/7.md). -/
def State.unitServes (s : State) : State := { s.unitMoves with fs := Config.fsAfter s.draws }

/-- TAKING AN EXCEPTION: `raise E(tval)`. Trap(cause, tval) is called at the instruction's pc, the unit saves and
redirects, and nothing else of the hart changes (00_scope.md R22, 60_exceptions.md R811, R813). No trap changes FS
(10_state.md R56); that the unit itself leaves it too is the model's choice (notes/assumptions/7.md and 31.md), as is that
the standard unit leaves the memory map (notes/assumptions/9.md). -/
def State.raise (s : State) (c : Cause) (tval : Word) : State :=
  match s.cfg.unitKind with
  | .standard =>
    { s with unit := unitException s.unit c.code tval s.pc
             pc := ((exceptionTarget s.unit c.code).setWidth s.w).setWidth 64
             trapCall := some ⟨c, tval, s.pc⟩ }
  | .unspecified =>
    { s.unitMoves with pc := ((Config.trapPc s.draws).setWidth s.w).setWidth 64
                       trapCall := some ⟨c, tval, s.pc⟩ }

/-- `Illegal()` for an instruction: tval is its bits, zero-extended (60_exceptions.md R802). -/
def State.illegal (s : State) (i : Instr) : State := s.raise .illegalInstruction ((encode i).bits.setWidth 64)

/-- What SRET restores (R814). -/
def unitSret (u : TrapUnit) : TrapUnit :=
  { u with priv := if u.spp then .supervisor else .user, sie := u.spie, spie := true, spp := false,
           mprv := if u.priv = .machine then false else u.mprv }

/-- What MRET restores (R814). -/
def unitMret (u : TrapUnit) : TrapUnit :=
  { u with priv := u.mpp, mie := u.mpie, mpie := true, mpp := .user,
           mprv := if u.mpp = .machine then u.mprv else false }

/-- The privileged operations handed to PrivOp (43_system.md R431 to R434). -/
inductive PrivKind where
  | sret
  | mret
  | wfi
  | sfenceVma (va asid : Word) (allVa allAsid : Bool)
  deriving DecidableEq, Repr

/-- The standard unit's answer to PrivOp: legality by mode and mstatus bits, and the target of a return
(R431 to R434). -/
def unitPrivAnswer (cfg : Config) (u : TrapUnit) : PrivKind → PrivAnswer
  | .sret =>
    if u.priv = .user ∨ (u.priv = .supervisor ∧ u.tsr = true) then .illegal else .redirect (maskEpc cfg u.sepc)
  | .mret => if u.priv = .machine then .redirect (maskEpc cfg u.mepc) else .illegal
  | .wfi => if u.tw = true ∧ u.priv ≠ .machine then .illegal else .proceed
  | .sfenceVma _ _ _ _ =>
    if u.priv = .user ∨ (u.priv = .supervisor ∧ u.tvm = true) then .illegal else .proceed

/-- The standard unit's state after a PrivOp it answers. -/
def unitPrivAfter (u : TrapUnit) : PrivKind → TrapUnit
  | .sret => unitSret u
  | .mret => unitMret u
  | .wfi => u
  | .sfenceVma _ _ _ _ => u

/-- PrivOp(kind, operands). -/
def State.privAnswer (s : State) (k : PrivKind) : PrivAnswer :=
  match s.cfg.unitKind with
  | .standard => unitPrivAnswer s.cfg s.unit k
  | .unspecified => Config.privAnswer s.draws

/-- The external state after a PrivOp that is not illegal. The standard unit leaves FS and the memory map (DESIGN CHOICE,
notes/assumptions/9.md and 31.md); of an unspecified unit both are free values. -/
def State.privAfter (s : State) (k : PrivKind) : State :=
  match s.cfg.unitKind with
  | .standard => { s with unit := unitPrivAfter s.unit k }
  | .unspecified => s.unitServes

/-- The operation is a trap return, the one kind of PrivOp that sets pc to the target the unit answers (R431, R432). -/
def PrivKind.isReturn : PrivKind → Bool
  | .sret => true
  | .mret => true
  | .wfi => false
  | .sfenceVma _ _ _ _ => false

/-- A privileged instruction: `illegal` is IllegalInstruction. On every other answer WFI and SFENCE.VMA advance pc
(R433, R434); a trap return goes where the unit redirects it (R431, R432), and on `continue`, which its rules leave open,
makes the default advance of 10_state.md R48 (DESIGN CHOICE, notes/assumptions/7.md). -/
def State.privileged (s : State) (i : Instr) (k : PrivKind) : State :=
  match s.privAnswer k with
  | .illegal => s.illegal i
  | .redirect t => if k.isReturn then (s.privAfter k).jump (t.setWidth s.w) else (s.privAfter k).advance 4
  | .proceed => (s.privAfter k).advance 4

/-! ## The external CSR/trap unit: CSR access (43_system.md R424) -/

/-- A status bit in its place. -/
def bitAt (b : Bool) (k : Nat) : Word := if b then 1#64 <<< k else 0

/-- sstatus: the S-level fields of mstatus (PRESUMED layout, notes/assumptions/6.md and 24.md; FS is R55). -/
def sstatusWord (cfg : Config) (u : TrapUnit) (fs : FS) : Word :=
  bitAt u.sie 1 ||| bitAt u.spie 5 ||| bitAt u.spp 8 ||| (fs.code.setWidth 64 <<< 13) ||| bitAt u.sum 18 |||
    bitAt u.mxr 19 ||| bitAt (fs == .dirty) (cfg.xlen.bits - 1) ||| bitAt (cfg.xlen == .rv64) 33

/-- mstatus. -/
def mstatusWord (cfg : Config) (u : TrapUnit) (fs : FS) : Word :=
  sstatusWord cfg u fs ||| bitAt u.mie 3 ||| bitAt u.mpie 7 ||| (u.mpp.code.setWidth 64 <<< 11) |||
    bitAt u.mprv 17 ||| bitAt u.tvm 20 ||| bitAt u.tw 21 ||| bitAt u.tsr 22 ||| bitAt (cfg.xlen == .rv64) 35

/-- The value of a CSR the standard unit holds; `none` for a number it alone knows. -/
def unitCsrRead (cfg : Config) (fs : FS) (u : TrapUnit) (csr : BitVec 12) : Option Word :=
  if csr = 0x300 then some (mstatusWord cfg u fs)
  else if csr = 0x302 then some u.medeleg
  else if csr = 0x303 then some u.mideleg
  else if csr = 0x304 then some u.ie
  else if csr = 0x305 then some u.mtvec
  else if csr = 0x341 then some (maskEpc cfg u.mepc)
  else if csr = 0x342 then some u.mcause
  else if csr = 0x343 then some u.mtval
  else if csr = 0x344 then some u.ip
  else if csr = 0x100 then some (sstatusWord cfg u fs)
  else if csr = 0x104 then some (u.ie &&& u.mideleg)
  else if csr = 0x105 then some u.stvec
  else if csr = 0x141 then some (maskEpc cfg u.sepc)
  else if csr = 0x142 then some u.scause
  else if csr = 0x143 then some u.stval
  else if csr = 0x144 then some (u.ip &&& u.mideleg)
  else none

/-- Replace the bits of `old` that `mask` selects (PRESUMED masks, notes/assumptions/23.md). -/
def mergeBits (old mask v : Word) : Word := (old &&& ~~~mask) ||| (v &&& mask)

/-- mstatus.MPP after a write of its field: the reserved code 2 leaves it (notes/assumptions/23.md). -/
def mppOf (v : BitVec 2) (old : Priv) : Priv :=
  if v = 0 then .user else if v = 1 then .supervisor else if v = 3 then .machine else old

/-- The S-level fields of mstatus after a write. -/
def writeSstatus (u : TrapUnit) (v : Word) : TrapUnit :=
  { u with sie := v.getLsbD 1, spie := v.getLsbD 5, spp := v.getLsbD 8, sum := v.getLsbD 18, mxr := v.getLsbD 19 }

/-- All fields of mstatus after a write. -/
def writeMstatus (u : TrapUnit) (v : Word) : TrapUnit :=
  { writeSstatus u v with
    mie := v.getLsbD 3, mpie := v.getLsbD 7, mpp := mppOf (v.extractLsb' 11 2) u.mpp, mprv := v.getLsbD 17,
    tvm := v.getLsbD 20, tw := v.getLsbD 21, tsr := v.getLsbD 22 }

/-- The unit after a write of a CSR it holds. -/
def unitCsrWrite (u : TrapUnit) (csr : BitVec 12) (v : Word) : TrapUnit :=
  if csr = 0x300 then writeMstatus u v
  else if csr = 0x302 then { u with medeleg := v &&& 0xB3FF }
  else if csr = 0x303 then { u with mideleg := v &&& 0x222 }
  else if csr = 0x304 then { u with ie := v &&& 0xAAA }
  else if csr = 0x305 then { u with mtvec := v &&& ~~~2#64 }
  else if csr = 0x341 then { u with mepc := v &&& ~~~1#64 }
  else if csr = 0x342 then { u with mcause := v }
  else if csr = 0x343 then { u with mtval := v }
  else if csr = 0x344 then { u with ip := mergeBits u.ip 0x222 v }
  else if csr = 0x100 then writeSstatus u v
  else if csr = 0x104 then { u with ie := mergeBits u.ie u.mideleg v }
  else if csr = 0x105 then { u with stvec := v &&& ~~~2#64 }
  else if csr = 0x141 then { u with sepc := v &&& ~~~1#64 }
  else if csr = 0x142 then { u with scause := v }
  else if csr = 0x143 then { u with stval := v }
  else if csr = 0x144 then { u with ip := mergeBits u.ip (0x2 &&& u.mideleg) v }
  else u

/-- FS after a CSR write: mstatus and sstatus hold it at bits 14:13 (10_state.md R55). -/
def fsAfterWrite (fs : FS) (csr : BitVec 12) (v : Word) : FS :=
  if csr = 0x300 ∨ csr = 0x100 then FS.ofCode (v.extractLsb' 13 2) else fs

/-- The standard unit forbids the access: mode below csr[9:8], or a write where csr[11:10] = 11 (R424). -/
def csrForbidden (u : TrapUnit) (csr : BitVec 12) (doWrite : Bool) : Bool :=
  decide (u.priv.code.toNat < (csr.extractLsb' 8 2).toNat) || (doWrite && csr.extractLsb' 10 2 == 3)

/-- CsrAccess(csr, op, value, doRead, doWrite): the value read and the state after it, or `none` for illegal. `newOf`
computes the value written from the value read. -/
def State.csrAccess (s : State) {w : Nat} (csr : BitVec 12) (newOf : BitVec w → BitVec w) (doRead doWrite : Bool) :
    Option (BitVec w × State) :=
  match s.cfg.unitKind with
  | .unspecified =>
    match Config.csrAnswer s.draws csr with
    | none => none
    | some old =>
      some (if doRead then old.setWidth w else 0, s.unitServes)
  | .standard =>
    if csrForbidden s.unit csr doWrite then none
    else match unitCsrRead s.cfg s.fs s.unit csr with
      | some old =>
        let v : Word := (newOf (old.setWidth w)).setWidth 64
        some (if doRead then old.setWidth w else 0,
          if doWrite then { s with unit := unitCsrWrite s.unit csr v, fs := fsAfterWrite s.fs csr v } else s)
      | none =>
        match Config.csrAnswer s.draws csr with
        | none => none
        | some old => some (if doRead then old.setWidth w else 0, s)

/-! ## Enabled instructions -/

/-- An instruction that is reserved, or that the configuration lacks, raises IllegalInstruction (60_exceptions.md R807 a,
b, c; 30_encoding.md R177, R206). -/
def State.whenEnabled (s : State) (i : Instr) (t : State) : State :=
  if i.wf && i.enabled s.cfg then t else s.illegal i

end Sys2Proof.Machine
end

