-- ==== Sys2Proof/Machine/Operands.lean ====
section
/-! DEFINITION. The operand forms: immediates (30_encoding.md R164 to R199), compressed register numbers (R186), effective
addresses (42_load_store.md R390), and the boxed accessors of the FP registers (47_fp_common.md R612 to R614). -/

namespace Sys2Proof.Machine

/-! ## Immediates -/

/-- The I- and S-immediates (R164, R165). -/
def imm12 (w : Nat) (imm : BitVec 12) : BitVec w := imm.signExtend w

/-- The B-immediate (R166). -/
def immB (w : Nat) (off : BitVec 12) : BitVec w := (off ++ 0#1).signExtend w

/-- The U-immediate: a 32-bit value, sign-extended (R167). -/
def immU (w : Nat) (imm : BitVec 20) : BitVec w := (imm ++ 0#12).signExtend w

/-- The J-immediate (R168). -/
def immJ (w : Nat) (off : BitVec 20) : BitVec w := (off ++ 0#1).signExtend w

/-- nzuimm of C.ADDI4SPN (R187). -/
def uimm4spn (w : Nat) (imm : BitVec 8) : BitVec w := (imm ++ 0#2).setWidth w

/-- The word offset of C.LW and its kin (R188). -/
def uimmW (w : Nat) (u : BitVec 5) : BitVec w := (u ++ 0#2).setWidth w

/-- The doubleword offset of C.LD and its kin (R189). -/
def uimmD (w : Nat) (u : BitVec 5) : BitVec w := (u ++ 0#3).setWidth w

/-- The CI signed immediate (R190). -/
def imm6 (w : Nat) (imm : BitVec 6) : BitVec w := imm.signExtend w

/-- nzimm of C.ADDI16SP (R191). -/
def imm16sp (w : Nat) (imm : BitVec 6) : BitVec w := (imm ++ 0#4).signExtend w

/-- nzimm of C.LUI (R192). -/
def immCLui (w : Nat) (imm : BitVec 6) : BitVec w := (imm ++ 0#12).signExtend w

/-- The CJ offset (R194). -/
def offCJ (w : Nat) (off : BitVec 11) : BitVec w := (off ++ 0#1).signExtend w

/-- The CB branch offset (R195). -/
def offCB (w : Nat) (off : BitVec 8) : BitVec w := (off ++ 0#1).signExtend w

/-- The stack word offset (R196, R198). -/
def uimmWsp (w : Nat) (u : BitVec 6) : BitVec w := (u ++ 0#2).setWidth w

/-- The stack doubleword offset (R197, R199). -/
def uimmDsp (w : Nat) (u : BitVec 6) : BitVec w := (u ++ 0#3).setWidth w

/-- A compressed register field names register field + 8 (R186). -/
def creg (r : CReg) : Reg := r.setWidth 5 + 8#5

/-- The stack pointer, x2 (10_state.md R42). -/
def sp : Reg := 2#5

/-- The link register of C.JAL and C.JALR, x1 (10_state.md R42). -/
def ra : Reg := 1#5

/-- The effective address `x[rs1] + imm` modulo 2^XLEN (R390). -/
def State.effAddr (s : State) (w : Nat) (rs1 : Reg) (imm : BitVec w) : BitVec w := s.rdX w rs1 + imm

/-- The amount of a register shift: x[rs2] modulo XLEN, its low 5 or 6 bits (40_base_integer.md R301). -/
def shiftAmount {w : Nat} (v : BitVec w) : Nat := v.toNat % w

/-- The low 32 bits of a source of a W form (40_base_integer.md R302). -/
def low32 {w : Nat} (v : BitVec w) : BitVec 32 := v.setWidth 32

/-- The sign extension of a 32-bit result to XLEN (R302). -/
def sext32 (w : Nat) (v : BitVec 32) : BitVec w := v.signExtend w

/-! ## FP registers (47_fp_common.md R612 to R614) -/

/-- The canonical single NaN (R617). -/
def canonicalNaN32 : BitVec 32 := 0x7FC00000#32

/-- The low word of a slot if its box is valid, else the canonical NaN (R612). -/
def unbox (v : Word) : BitVec 32 := if v.extractLsb' 32 32 = 0xFFFFFFFF#32 then v.setWidth 32 else canonicalNaN32

/-- `unboxS(i)` (R612). -/
def State.unboxS (s : State) (i : Reg) : BitVec 32 := unbox (s.rdF i)

/-- `writeS(i, v)` (R613). -/
def State.writeS (s : State) (i : Reg) (v : BitVec 32) : State := s.wrF i (0xFFFFFFFF#32 ++ v)

/-- `readD(i)` (R614). -/
def State.readD (s : State) (i : Reg) : BitVec 64 := s.rdF i

/-- `writeD(i, v)` (R614). -/
def State.writeD (s : State) (i : Reg) (v : BitVec 64) : State := s.wrF i v

end Sys2Proof.Machine
end

