-- ==== Sys2Proof/Machine/Flags.lean ====
section
/-! DEFINITION. The floating-point flags, rounding modes and the fcsr views (10_state.md R58 to R61, 47_fp_common.md R619
to R625). The hart has no integer flags (10_state.md R62). -/

namespace Sys2Proof.Machine

/-- A set of fflags bits: NV, DZ, OF, UF, NX from bit 4 to bit 0 (R58). -/
abbrev FpFlags := BitVec 5

def flagNV : FpFlags := 0b10000#5
def flagDZ : FpFlags := 0b01000#5
def flagOF : FpFlags := 0b00100#5
def flagUF : FpFlags := 0b00010#5
def flagNX : FpFlags := 0b00001#5

/-- A flag when a condition holds. -/
def flagIf (c : Bool) (fl : FpFlags) : FpFlags := if c then fl else 0

/-- `accrue(flags)`: flags only accumulate, and a nonzero set makes FS Dirty (R620). -/
def State.accrue (s : State) (fl : FpFlags) : State :=
  if fl = 0 then s else { s with fflags := s.fflags ||| fl, fs := .dirty }

/-- The rounding modes (R622). -/
inductive RMode where
  | rne
  | rtz
  | rdn
  | rup
  | rmm
  deriving DecidableEq, Repr

/-- The mode a 3-bit value names; 5, 6 and 7 name none (R622). -/
def RMode.ofBits (v : BitVec 3) : Option RMode :=
  if v = 0 then some .rne
  else if v = 1 then some .rtz
  else if v = 2 then some .rdn
  else if v = 3 then some .rup
  else if v = 4 then some .rmm
  else none

/-- `RM(rm)`: the effective rounding mode, or none when the instruction is illegal (R623). -/
def effectiveRM (rm frm : BitVec 3) : Option RMode := if rm = 7 then RMode.ofBits frm else RMode.ofBits rm

/-- The numbers of the three CSRs the block serves itself (R58 to R60). -/
def isFpCsr (csr : BitVec 12) : Bool := csr == 1 || csr == 2 || csr == 3

/-- `CSR_read` of fflags, frm or fcsr (R60). -/
def State.fpCsrRead (s : State) (w : Nat) (csr : BitVec 12) : BitVec w :=
  if csr = 1 then s.fflags.setWidth w
  else if csr = 2 then s.frm.setWidth w
  else (s.frm ++ s.fflags).setWidth w

/-- `CSR_write` of fflags, frm or fcsr: FS becomes Dirty (R60, R61). -/
def State.fpCsrWrite (s : State) {w : Nat} (csr : BitVec 12) (v : BitVec w) : State :=
  if csr = 1 then { s with fflags := v.setWidth 5, fs := .dirty }
  else if csr = 2 then { s with frm := v.setWidth 3, fs := .dirty }
  else { s with fflags := v.setWidth 5, frm := v.extractLsb' 5 3, fs := .dirty }

end Sys2Proof.Machine
end

