-- ==== Sys2Proof/Machine/Integer.lean ====
section
/-! DEFINITION. The base integer computational instructions (40_base_integer.md). The shared operations take the length
of the instruction, so that a compressed instruction executes as its expansion (30_encoding.md R201). -/

namespace Sys2Proof.Machine

/-- Write a result to rd and advance pc (40_base_integer.md R300). -/
def State.result (s : State) (len : Nat) (rd : Reg) {w : Nat} (v : BitVec w) : State := (s.wrX rd v).advance len

/-- 1 or 0 in an XLEN-bit register. -/
def boolWord (w : Nat) (b : Bool) : BitVec w := if b then BitVec.ofNat w 1 else 0

def State.opAddi (s : State) (len : Nat) (rd rs1 : Reg) (imm : BitVec s.w) : State :=
  s.result len rd (s.rdX s.w rs1 + imm)

def State.opAndi (s : State) (len : Nat) (rd rs1 : Reg) (imm : BitVec s.w) : State :=
  s.result len rd (s.rdX s.w rs1 &&& imm)

def State.opLui (s : State) (len : Nat) (rd : Reg) (imm : BitVec s.w) : State := s.result len rd imm

def State.opSlli (s : State) (len : Nat) (rd rs1 : Reg) (shamt : BitVec 6) : State :=
  s.result len rd (s.rdX s.w rs1 <<< shamt.toNat)

def State.opSrli (s : State) (len : Nat) (rd rs1 : Reg) (shamt : BitVec 6) : State :=
  s.result len rd (s.rdX s.w rs1 >>> shamt.toNat)

def State.opSrai (s : State) (len : Nat) (rd rs1 : Reg) (shamt : BitVec 6) : State :=
  s.result len rd ((s.rdX s.w rs1).sshiftRight shamt.toNat)

def State.opAdd (s : State) (len : Nat) (rd rs1 rs2 : Reg) : State :=
  s.result len rd (s.rdX s.w rs1 + s.rdX s.w rs2)

def State.opSub (s : State) (len : Nat) (rd rs1 rs2 : Reg) : State :=
  s.result len rd (s.rdX s.w rs1 - s.rdX s.w rs2)

def State.opXor (s : State) (len : Nat) (rd rs1 rs2 : Reg) : State :=
  s.result len rd (s.rdX s.w rs1 ^^^ s.rdX s.w rs2)

def State.opOr (s : State) (len : Nat) (rd rs1 rs2 : Reg) : State :=
  s.result len rd (s.rdX s.w rs1 ||| s.rdX s.w rs2)

def State.opAnd (s : State) (len : Nat) (rd rs1 rs2 : Reg) : State :=
  s.result len rd (s.rdX s.w rs1 &&& s.rdX s.w rs2)

def State.opAddiw (s : State) (len : Nat) (rd rs1 : Reg) (imm : BitVec s.w) : State :=
  s.result len rd (sext32 s.w (low32 (s.rdX s.w rs1 + imm)))

def State.opAddw (s : State) (len : Nat) (rd rs1 rs2 : Reg) : State :=
  s.result len rd (sext32 s.w (low32 (s.rdX s.w rs1 + s.rdX s.w rs2)))

def State.opSubw (s : State) (len : Nat) (rd rs1 rs2 : Reg) : State :=
  s.result len rd (sext32 s.w (low32 (s.rdX s.w rs1 - s.rdX s.w rs2)))

/-- R303. -/
def execLui (rd : Reg) (imm : BitVec 20) (s : State) : Host.Outcome State Fault Refusal :=
  .next (s.opLui 4 rd (immU s.w imm))

/-- R304. -/
def execAuipc (rd : Reg) (imm : BitVec 20) (s : State) : Host.Outcome State Fault Refusal :=
  .next (s.result 4 rd (s.rdPc s.w + immU s.w imm))

/-- R305. -/
def execAddi (rd rs1 : Reg) (imm : BitVec 12) (s : State) : Host.Outcome State Fault Refusal :=
  .next (s.opAddi 4 rd rs1 (imm12 s.w imm))

/-- R306. -/
def execSlti (rd rs1 : Reg) (imm : BitVec 12) (s : State) : Host.Outcome State Fault Refusal :=
  .next (s.result 4 rd (boolWord s.w ((s.rdX s.w rs1).slt (imm12 s.w imm))))

/-- R307. -/
def execSltiu (rd rs1 : Reg) (imm : BitVec 12) (s : State) : Host.Outcome State Fault Refusal :=
  .next (s.result 4 rd (boolWord s.w ((s.rdX s.w rs1).ult (imm12 s.w imm))))

/-- R308. -/
def execXori (rd rs1 : Reg) (imm : BitVec 12) (s : State) : Host.Outcome State Fault Refusal :=
  .next (s.result 4 rd (s.rdX s.w rs1 ^^^ imm12 s.w imm))

/-- R309. -/
def execOri (rd rs1 : Reg) (imm : BitVec 12) (s : State) : Host.Outcome State Fault Refusal :=
  .next (s.result 4 rd (s.rdX s.w rs1 ||| imm12 s.w imm))

/-- R310. -/
def execAndi (rd rs1 : Reg) (imm : BitVec 12) (s : State) : Host.Outcome State Fault Refusal :=
  .next (s.opAndi 4 rd rs1 (imm12 s.w imm))

/-- R311. -/
def execSlli (rd rs1 : Reg) (shamt : BitVec 6) (s : State) : Host.Outcome State Fault Refusal :=
  .next (s.whenEnabled (.slli rd rs1 shamt) (s.opSlli 4 rd rs1 shamt))

/-- R312. -/
def execSrli (rd rs1 : Reg) (shamt : BitVec 6) (s : State) : Host.Outcome State Fault Refusal :=
  .next (s.whenEnabled (.srli rd rs1 shamt) (s.opSrli 4 rd rs1 shamt))

/-- R313. -/
def execSrai (rd rs1 : Reg) (shamt : BitVec 6) (s : State) : Host.Outcome State Fault Refusal :=
  .next (s.whenEnabled (.srai rd rs1 shamt) (s.opSrai 4 rd rs1 shamt))

/-- R314. -/
def execAdd (rd rs1 rs2 : Reg) (s : State) : Host.Outcome State Fault Refusal := .next (s.opAdd 4 rd rs1 rs2)

/-- R315. -/
def execSub (rd rs1 rs2 : Reg) (s : State) : Host.Outcome State Fault Refusal := .next (s.opSub 4 rd rs1 rs2)

/-- R316. -/
def execSll (rd rs1 rs2 : Reg) (s : State) : Host.Outcome State Fault Refusal :=
  .next (s.result 4 rd (s.rdX s.w rs1 <<< shiftAmount (s.rdX s.w rs2)))

/-- R317. -/
def execSlt (rd rs1 rs2 : Reg) (s : State) : Host.Outcome State Fault Refusal :=
  .next (s.result 4 rd (boolWord s.w ((s.rdX s.w rs1).slt (s.rdX s.w rs2))))

/-- R318. -/
def execSltu (rd rs1 rs2 : Reg) (s : State) : Host.Outcome State Fault Refusal :=
  .next (s.result 4 rd (boolWord s.w ((s.rdX s.w rs1).ult (s.rdX s.w rs2))))

/-- R319. -/
def execXor (rd rs1 rs2 : Reg) (s : State) : Host.Outcome State Fault Refusal := .next (s.opXor 4 rd rs1 rs2)

/-- R320. -/
def execSrl (rd rs1 rs2 : Reg) (s : State) : Host.Outcome State Fault Refusal :=
  .next (s.result 4 rd (s.rdX s.w rs1 >>> shiftAmount (s.rdX s.w rs2)))

/-- R321. -/
def execSra (rd rs1 rs2 : Reg) (s : State) : Host.Outcome State Fault Refusal :=
  .next (s.result 4 rd ((s.rdX s.w rs1).sshiftRight (shiftAmount (s.rdX s.w rs2))))

/-- R322. -/
def execOr (rd rs1 rs2 : Reg) (s : State) : Host.Outcome State Fault Refusal := .next (s.opOr 4 rd rs1 rs2)

/-- R323. -/
def execAnd (rd rs1 rs2 : Reg) (s : State) : Host.Outcome State Fault Refusal := .next (s.opAnd 4 rd rs1 rs2)

/-! ## Word forms, XLEN = 64 only (R302) -/

/-- R324. -/
def execAddiw (rd rs1 : Reg) (imm : BitVec 12) (s : State) : Host.Outcome State Fault Refusal :=
  .next (s.whenEnabled (.addiw rd rs1 imm) (s.opAddiw 4 rd rs1 (imm12 s.w imm)))

/-- R325. -/
def execSlliw (rd rs1 : Reg) (shamt : BitVec 5) (s : State) : Host.Outcome State Fault Refusal :=
  .next (s.whenEnabled (.slliw rd rs1 shamt) (s.result 4 rd (sext32 s.w (low32 (s.rdX s.w rs1) <<< shamt.toNat))))

/-- R326. -/
def execSrliw (rd rs1 : Reg) (shamt : BitVec 5) (s : State) : Host.Outcome State Fault Refusal :=
  .next (s.whenEnabled (.srliw rd rs1 shamt) (s.result 4 rd (sext32 s.w (low32 (s.rdX s.w rs1) >>> shamt.toNat))))

/-- R327. -/
def execSraiw (rd rs1 : Reg) (shamt : BitVec 5) (s : State) : Host.Outcome State Fault Refusal :=
  .next (s.whenEnabled (.sraiw rd rs1 shamt)
    (s.result 4 rd (sext32 s.w ((low32 (s.rdX s.w rs1)).sshiftRight shamt.toNat))))

/-- R328. -/
def execAddw (rd rs1 rs2 : Reg) (s : State) : Host.Outcome State Fault Refusal :=
  .next (s.whenEnabled (.addw rd rs1 rs2) (s.opAddw 4 rd rs1 rs2))

/-- R329. -/
def execSubw (rd rs1 rs2 : Reg) (s : State) : Host.Outcome State Fault Refusal :=
  .next (s.whenEnabled (.subw rd rs1 rs2) (s.opSubw 4 rd rs1 rs2))

/-- R330. -/
def execSllw (rd rs1 rs2 : Reg) (s : State) : Host.Outcome State Fault Refusal :=
  .next (s.whenEnabled (.sllw rd rs1 rs2)
    (s.result 4 rd (sext32 s.w (low32 (s.rdX s.w rs1) <<< shiftAmount (low32 (s.rdX s.w rs2))))))

/-- R331. -/
def execSrlw (rd rs1 rs2 : Reg) (s : State) : Host.Outcome State Fault Refusal :=
  .next (s.whenEnabled (.srlw rd rs1 rs2)
    (s.result 4 rd (sext32 s.w (low32 (s.rdX s.w rs1) >>> shiftAmount (low32 (s.rdX s.w rs2))))))

/-- R332. -/
def execSraw (rd rs1 rs2 : Reg) (s : State) : Host.Outcome State Fault Refusal :=
  .next (s.whenEnabled (.sraw rd rs1 rs2)
    (s.result 4 rd (sext32 s.w ((low32 (s.rdX s.w rs1)).sshiftRight (shiftAmount (low32 (s.rdX s.w rs2)))))))

end Sys2Proof.Machine
end

