-- ==== Sys2Proof/Machine/Atomic.lean ====
section
/-! DEFINITION. The A extension (46_atomic.md). The aq and rl bits order accesses between harts and have no effect that
one hart sees (R575). -/

namespace Sys2Proof.Machine

/-- The reservation block of an address: the aligned RESV_GRANULE bytes that hold it, by its first address (R571). -/
def resvBlock (cfg : Config) {w : Nat} (a : BitVec w) : Word := BitVec.ofNat 64 (a.toNat - a.toNat % cfg.resvGranule)

/-- The address is not a multiple of the access size (R570, whatever MISALIGNED_LS says). -/
def unaligned {w : Nat} (a : BitVec w) (n : Nat) : Bool := decide (a.toNat % n ≠ 0)

/-- LR: read, reserve the block, write rd sign-extended (R576). -/
def State.opLr (s : State) (n : Nat) (rd rs1 : Reg) : State :=
  let a := s.rdX s.w rs1
  if unaligned a n then s.raise .loadMisaligned (a.setWidth 64)
  else match s.memRead a n with
    | .error f => s.raise (faultCause .read f) (a.setWidth 64)
    | .ok v => ({ s with resvValid := true, resvAddr := resvBlock s.cfg a } : State).result 4 rd (v.signExtend s.w)

/-- An SC at a succeeds: its block is the reserved one, and no draw makes it fail (R571, R573). -/
def State.scSucceeds (s : State) {w : Nat} (a : BitVec w) : Bool :=
  s.resvValid && resvBlock s.cfg a == s.resvAddr && !(s.cfg.scMayFail && Config.scFails s.draws)

/-- The reservation is given up (R572 a). -/
def State.dropResv (s : State) : State := { s with resvValid := false }

/-- SC: on success it writes memory and 0 to rd, on failure it accesses no memory and writes 1 (R573, R577). -/
def State.opSc (s : State) (n : Nat) (rd rs1 rs2 : Reg) : State :=
  let a := s.rdX s.w rs1
  if unaligned a n then s.raise .storeMisaligned (a.setWidth 64)
  else if s.scSucceeds a then
    match s.memWrite a n ((s.rdX s.w rs2).setWidth (8 * n)) with
    | .error f => s.raise (faultCause .write f) (a.setWidth 64)
    | .ok t => t.dropResv.result 4 rd (0 : BitVec s.w)
  else s.dropResv.result 4 rd (BitVec.ofNat s.w 1)

/-- AMO: read, combine with x[rs2], write, and give rd the old value sign-extended (R574). -/
def State.opAmo (s : State) (n : Nat) (rd rs1 rs2 : Reg) (op : BitVec (8 * n) → BitVec (8 * n) → BitVec (8 * n)) : State :=
  let a := s.rdX s.w rs1
  if unaligned a n then s.raise .storeMisaligned (a.setWidth 64)
  else match s.memAmo a n (fun old => op old ((s.rdX s.w rs2).setWidth (8 * n))) with
    | .error f => s.raise (faultCause .write f) (a.setWidth 64)
    | .ok (old, t) => t.result 4 rd (old.signExtend s.w)

/-- R576. -/
def execLrW (rd rs1 : Reg) (aq rl : Bool) (s : State) : Host.Outcome State Fault Refusal :=
  .next (s.whenEnabled (.lrW rd rs1 aq rl) (s.opLr 4 rd rs1))

/-- R577. -/
def execScW (rd rs1 rs2 : Reg) (aq rl : Bool) (s : State) : Host.Outcome State Fault Refusal :=
  .next (s.whenEnabled (.scW rd rs1 rs2 aq rl) (s.opSc 4 rd rs1 rs2))

/-- R578. -/
def execAmoswapW (rd rs1 rs2 : Reg) (aq rl : Bool) (s : State) : Host.Outcome State Fault Refusal :=
  .next (s.whenEnabled (.amoswapW rd rs1 rs2 aq rl) (s.opAmo 4 rd rs1 rs2 (fun _ src => src)))

/-- R579. -/
def execAmoaddW (rd rs1 rs2 : Reg) (aq rl : Bool) (s : State) : Host.Outcome State Fault Refusal :=
  .next (s.whenEnabled (.amoaddW rd rs1 rs2 aq rl) (s.opAmo 4 rd rs1 rs2 (fun old src => old + src)))

/-- R580. -/
def execAmoxorW (rd rs1 rs2 : Reg) (aq rl : Bool) (s : State) : Host.Outcome State Fault Refusal :=
  .next (s.whenEnabled (.amoxorW rd rs1 rs2 aq rl) (s.opAmo 4 rd rs1 rs2 (fun old src => old ^^^ src)))

/-- R581. -/
def execAmoandW (rd rs1 rs2 : Reg) (aq rl : Bool) (s : State) : Host.Outcome State Fault Refusal :=
  .next (s.whenEnabled (.amoandW rd rs1 rs2 aq rl) (s.opAmo 4 rd rs1 rs2 (fun old src => old &&& src)))

/-- R582. -/
def execAmoorW (rd rs1 rs2 : Reg) (aq rl : Bool) (s : State) : Host.Outcome State Fault Refusal :=
  .next (s.whenEnabled (.amoorW rd rs1 rs2 aq rl) (s.opAmo 4 rd rs1 rs2 (fun old src => old ||| src)))

/-- R583. -/
def execAmominW (rd rs1 rs2 : Reg) (aq rl : Bool) (s : State) : Host.Outcome State Fault Refusal :=
  .next (s.whenEnabled (.amominW rd rs1 rs2 aq rl) (s.opAmo 4 rd rs1 rs2 (fun old src => if old.slt src then old else src)))

/-- R584. -/
def execAmomaxW (rd rs1 rs2 : Reg) (aq rl : Bool) (s : State) : Host.Outcome State Fault Refusal :=
  .next (s.whenEnabled (.amomaxW rd rs1 rs2 aq rl) (s.opAmo 4 rd rs1 rs2 (fun old src => if src.slt old then old else src)))

/-- R585. -/
def execAmominuW (rd rs1 rs2 : Reg) (aq rl : Bool) (s : State) : Host.Outcome State Fault Refusal :=
  .next (s.whenEnabled (.amominuW rd rs1 rs2 aq rl) (s.opAmo 4 rd rs1 rs2 (fun old src => if old.ult src then old else src)))

/-- R586. -/
def execAmomaxuW (rd rs1 rs2 : Reg) (aq rl : Bool) (s : State) : Host.Outcome State Fault Refusal :=
  .next (s.whenEnabled (.amomaxuW rd rs1 rs2 aq rl) (s.opAmo 4 rd rs1 rs2 (fun old src => if src.ult old then old else src)))

/-- R587. -/
def execLrD (rd rs1 : Reg) (aq rl : Bool) (s : State) : Host.Outcome State Fault Refusal :=
  .next (s.whenEnabled (.lrD rd rs1 aq rl) (s.opLr 8 rd rs1))

/-- R588. -/
def execScD (rd rs1 rs2 : Reg) (aq rl : Bool) (s : State) : Host.Outcome State Fault Refusal :=
  .next (s.whenEnabled (.scD rd rs1 rs2 aq rl) (s.opSc 8 rd rs1 rs2))

/-- R589. -/
def execAmoswapD (rd rs1 rs2 : Reg) (aq rl : Bool) (s : State) : Host.Outcome State Fault Refusal :=
  .next (s.whenEnabled (.amoswapD rd rs1 rs2 aq rl) (s.opAmo 8 rd rs1 rs2 (fun _ src => src)))

/-- R590. -/
def execAmoaddD (rd rs1 rs2 : Reg) (aq rl : Bool) (s : State) : Host.Outcome State Fault Refusal :=
  .next (s.whenEnabled (.amoaddD rd rs1 rs2 aq rl) (s.opAmo 8 rd rs1 rs2 (fun old src => old + src)))

/-- R591. -/
def execAmoxorD (rd rs1 rs2 : Reg) (aq rl : Bool) (s : State) : Host.Outcome State Fault Refusal :=
  .next (s.whenEnabled (.amoxorD rd rs1 rs2 aq rl) (s.opAmo 8 rd rs1 rs2 (fun old src => old ^^^ src)))

/-- R592. -/
def execAmoandD (rd rs1 rs2 : Reg) (aq rl : Bool) (s : State) : Host.Outcome State Fault Refusal :=
  .next (s.whenEnabled (.amoandD rd rs1 rs2 aq rl) (s.opAmo 8 rd rs1 rs2 (fun old src => old &&& src)))

/-- R593. -/
def execAmoorD (rd rs1 rs2 : Reg) (aq rl : Bool) (s : State) : Host.Outcome State Fault Refusal :=
  .next (s.whenEnabled (.amoorD rd rs1 rs2 aq rl) (s.opAmo 8 rd rs1 rs2 (fun old src => old ||| src)))

/-- R594. -/
def execAmominD (rd rs1 rs2 : Reg) (aq rl : Bool) (s : State) : Host.Outcome State Fault Refusal :=
  .next (s.whenEnabled (.amominD rd rs1 rs2 aq rl) (s.opAmo 8 rd rs1 rs2 (fun old src => if old.slt src then old else src)))

/-- R595. -/
def execAmomaxD (rd rs1 rs2 : Reg) (aq rl : Bool) (s : State) : Host.Outcome State Fault Refusal :=
  .next (s.whenEnabled (.amomaxD rd rs1 rs2 aq rl) (s.opAmo 8 rd rs1 rs2 (fun old src => if src.slt old then old else src)))

/-- R596. -/
def execAmominuD (rd rs1 rs2 : Reg) (aq rl : Bool) (s : State) : Host.Outcome State Fault Refusal :=
  .next (s.whenEnabled (.amominuD rd rs1 rs2 aq rl) (s.opAmo 8 rd rs1 rs2 (fun old src => if old.ult src then old else src)))

/-- R597. -/
def execAmomaxuD (rd rs1 rs2 : Reg) (aq rl : Bool) (s : State) : Host.Outcome State Fault Refusal :=
  .next (s.whenEnabled (.amomaxuD rd rs1 rs2 aq rl) (s.opAmo 8 rd rs1 rs2 (fun old src => if src.ult old then old else src)))

end Sys2Proof.Machine
end

