-- ==== Sys2Proof/Machine/Control.lean ====
section
/-! DEFINITION. The control transfer instructions (41_control_transfer.md). -/

namespace Sys2Proof.Machine

/-- The target is not a multiple of IALIGN / 8 (R361). -/
def State.misalignedTarget (s : State) {w : Nat} (target : BitVec w) : Bool :=
  decide (target.toNat % s.cfg.instrAlign ≠ 0)

/-- Write the link to rd and jump, after the target check (R360, R361). -/
def State.jumpLink (s : State) (len : Nat) (rd : Reg) (target : BitVec s.w) : State :=
  if s.misalignedTarget target then s.raise .instrMisaligned (target.setWidth 64)
  else (s.wrX rd (s.nextPc s.w len)).jump target

/-- JAL: the target is pc + off. -/
def State.opJal (s : State) (len : Nat) (rd : Reg) (off : BitVec s.w) : State := s.jumpLink len rd (s.rdPc s.w + off)

/-- JALR: the target is x[rs1] + imm with bit 0 cleared. -/
def State.opJalr (s : State) (len : Nat) (rd rs1 : Reg) (imm : BitVec s.w) : State :=
  s.jumpLink len rd ((s.rdX s.w rs1 + imm) &&& ~~~BitVec.ofNat s.w 1)

/-- A conditional branch; a branch not taken never checks its target (R361). -/
def State.opBranch (s : State) (len : Nat) (cond : Bool) (off : BitVec s.w) : State :=
  if cond then
    if s.misalignedTarget (s.rdPc s.w + off) then s.raise .instrMisaligned ((s.rdPc s.w + off).setWidth 64)
    else s.jump (s.rdPc s.w + off)
  else s.advance len

/-- R362. -/
def execJal (rd : Reg) (off : BitVec 20) (s : State) : Host.Outcome State Fault Refusal :=
  .next (s.opJal 4 rd (immJ s.w off))

/-- R363. -/
def execJalr (rd rs1 : Reg) (imm : BitVec 12) (s : State) : Host.Outcome State Fault Refusal :=
  .next (s.opJalr 4 rd rs1 (imm12 s.w imm))

/-- R364. -/
def execBeq (rs1 rs2 : Reg) (off : BitVec 12) (s : State) : Host.Outcome State Fault Refusal :=
  .next (s.opBranch 4 (s.rdX s.w rs1 == s.rdX s.w rs2) (immB s.w off))

/-- R365. -/
def execBne (rs1 rs2 : Reg) (off : BitVec 12) (s : State) : Host.Outcome State Fault Refusal :=
  .next (s.opBranch 4 (s.rdX s.w rs1 != s.rdX s.w rs2) (immB s.w off))

/-- R366. -/
def execBlt (rs1 rs2 : Reg) (off : BitVec 12) (s : State) : Host.Outcome State Fault Refusal :=
  .next (s.opBranch 4 ((s.rdX s.w rs1).slt (s.rdX s.w rs2)) (immB s.w off))

/-- R367. -/
def execBge (rs1 rs2 : Reg) (off : BitVec 12) (s : State) : Host.Outcome State Fault Refusal :=
  .next (s.opBranch 4 (!(s.rdX s.w rs1).slt (s.rdX s.w rs2)) (immB s.w off))

/-- R368. -/
def execBltu (rs1 rs2 : Reg) (off : BitVec 12) (s : State) : Host.Outcome State Fault Refusal :=
  .next (s.opBranch 4 ((s.rdX s.w rs1).ult (s.rdX s.w rs2)) (immB s.w off))

/-- R369. -/
def execBgeu (rs1 rs2 : Reg) (off : BitVec 12) (s : State) : Host.Outcome State Fault Refusal :=
  .next (s.opBranch 4 (!(s.rdX s.w rs1).ult (s.rdX s.w rs2)) (immB s.w off))

end Sys2Proof.Machine
end

