-- ==== Sys2Proof/Machine/LoadStore.lean ====
section
/-! DEFINITION. The integer loads and stores (42_load_store.md), and the checks every load and store shares (R391). -/

namespace Sys2Proof.Machine

/-- The access is misaligned and MISALIGNED_LS makes that a trap (R391, 20_memory.md R108). -/
def State.misalignedTrap (s : State) {w : Nat} (a : BitVec w) (n : Nat) : Bool :=
  decide (a.toNat % n ≠ 0) && s.cfg.misaligned == .trap

/-- A load of n bytes at a: the checks of R391, then what is done with the bytes. -/
def State.load (s : State) {w : Nat} (a : BitVec w) (n : Nat) (k : BitVec (8 * n) → State) : State :=
  if s.misalignedTrap a n then s.raise .loadMisaligned (a.setWidth 64)
  else match s.memRead a n with
    | .error f => s.raise (faultCause .read f) (a.setWidth 64)
    | .ok v => k v

/-- A store of n bytes at a, and the default advance (R391, R393). -/
def State.store (s : State) (len : Nat) {w : Nat} (a : BitVec w) (n : Nat) (v : BitVec (8 * n)) : State :=
  if s.misalignedTrap a n then s.raise .storeMisaligned (a.setWidth 64)
  else match s.memWrite a n v with
    | .error f => s.raise (faultCause .write f) (a.setWidth 64)
    | .ok t => t.advance len

/-- A load of n bytes, sign-extended to XLEN. -/
def State.opLoad (s : State) (len n : Nat) (rd rs1 : Reg) (imm : BitVec s.w) : State :=
  s.load (s.effAddr s.w rs1 imm) n fun v => s.result len rd (v.signExtend s.w)

/-- A load of n bytes, zero-extended to XLEN. -/
def State.opLoadU (s : State) (len n : Nat) (rd rs1 : Reg) (imm : BitVec s.w) : State :=
  s.load (s.effAddr s.w rs1 imm) n fun v => s.result len rd (v.setWidth s.w)

/-- A store of the low n bytes of x[rs2]. -/
def State.opStore (s : State) (len n : Nat) (rs1 rs2 : Reg) (imm : BitVec s.w) : State :=
  s.store len (s.effAddr s.w rs1 imm) n ((s.rdX s.w rs2).setWidth (8 * n))

/-- R394. -/
def execLb (rd rs1 : Reg) (imm : BitVec 12) (s : State) : Host.Outcome State Fault Refusal :=
  .next (s.opLoad 4 1 rd rs1 (imm12 s.w imm))

/-- R395. -/
def execLh (rd rs1 : Reg) (imm : BitVec 12) (s : State) : Host.Outcome State Fault Refusal :=
  .next (s.opLoad 4 2 rd rs1 (imm12 s.w imm))

/-- R396. -/
def execLw (rd rs1 : Reg) (imm : BitVec 12) (s : State) : Host.Outcome State Fault Refusal :=
  .next (s.opLoad 4 4 rd rs1 (imm12 s.w imm))

/-- R397. -/
def execLbu (rd rs1 : Reg) (imm : BitVec 12) (s : State) : Host.Outcome State Fault Refusal :=
  .next (s.opLoadU 4 1 rd rs1 (imm12 s.w imm))

/-- R398. -/
def execLhu (rd rs1 : Reg) (imm : BitVec 12) (s : State) : Host.Outcome State Fault Refusal :=
  .next (s.opLoadU 4 2 rd rs1 (imm12 s.w imm))

/-- R399. -/
def execLwu (rd rs1 : Reg) (imm : BitVec 12) (s : State) : Host.Outcome State Fault Refusal :=
  .next (s.whenEnabled (.lwu rd rs1 imm) (s.opLoadU 4 4 rd rs1 (imm12 s.w imm)))

/-- R400. -/
def execLd (rd rs1 : Reg) (imm : BitVec 12) (s : State) : Host.Outcome State Fault Refusal :=
  .next (s.whenEnabled (.ld rd rs1 imm) (s.opLoad 4 8 rd rs1 (imm12 s.w imm)))

/-- R401. -/
def execSb (rs1 rs2 : Reg) (imm : BitVec 12) (s : State) : Host.Outcome State Fault Refusal :=
  .next (s.opStore 4 1 rs1 rs2 (imm12 s.w imm))

/-- R402. -/
def execSh (rs1 rs2 : Reg) (imm : BitVec 12) (s : State) : Host.Outcome State Fault Refusal :=
  .next (s.opStore 4 2 rs1 rs2 (imm12 s.w imm))

/-- R403. -/
def execSw (rs1 rs2 : Reg) (imm : BitVec 12) (s : State) : Host.Outcome State Fault Refusal :=
  .next (s.opStore 4 4 rs1 rs2 (imm12 s.w imm))

/-- R404. -/
def execSd (rs1 rs2 : Reg) (imm : BitVec 12) (s : State) : Host.Outcome State Fault Refusal :=
  .next (s.whenEnabled (.sd rs1 rs2 imm) (s.opStore 4 8 rs1 rs2 (imm12 s.w imm)))

end Sys2Proof.Machine
end

