-- ==== Sys2Proof/Machine/SoftFloat.lean ====
section
/-! DEFINITION. IEEE 754 arithmetic on bit patterns, for both formats (47_fp_common.md R616 to R635). A finite value is
(-1)^neg * m * 2^e with m a Nat and e an Int, so sums and products are exact; a quotient or square root that is not
exact is given one bit below its computed digits, enough digits being computed that it rounds as the exact value does.
One function, `roundPack`, rounds and packs every result. -/

namespace Sys2Proof.Machine

/-- A binary interchange format by its field widths (R616). -/
structure FpFormat where
  expBits  : Nat
  fracBits : Nat
  deriving DecidableEq, Repr

/-- binary32. -/
def binary32 : FpFormat := ⟨8, 23⟩

/-- binary64. -/
def binary64 : FpFormat := ⟨11, 52⟩

/-- The width of a pattern. -/
def FpFormat.width (F : FpFormat) : Nat := F.expBits + F.fracBits + 1

/-- The precision p: fraction bits and the hidden bit. -/
def FpFormat.prec (F : FpFormat) : Nat := F.fracBits + 1

/-- The exponent of the smallest normal: 1 - bias. -/
def FpFormat.emin (F : FpFormat) : Int := 2 - 2 ^ (F.expBits - 1)

/-- The exponent of the last place of a subnormal. -/
def FpFormat.qmin (F : FpFormat) : Int := F.emin - F.fracBits

/-- The pattern of +∞, which is also the number of patterns of finite magnitudes. -/
def FpFormat.infBits (F : FpFormat) : Nat := (2 ^ F.expBits - 1) * 2 ^ F.fracBits

/-- The sign bit as a number. -/
def FpFormat.signBit (F : FpFormat) : Nat := 2 ^ (F.expBits + F.fracBits)

/-- The canonical NaN: quiet, positive, zero payload (R617). -/
def FpFormat.canonicalNaN (F : FpFormat) : Nat := F.infBits + 2 ^ (F.fracBits - 1)

/-- A decoded value. -/
inductive FpVal where
  | nan (signaling : Bool)
  | inf (neg : Bool)
  | fin (neg : Bool) (m : Nat) (e : Int)
  deriving DecidableEq, Repr

/-- The sign of a pattern. -/
def FpFormat.neg (F : FpFormat) (v : Nat) : Bool := decide (v / F.signBit % 2 = 1)

/-- The pattern without its sign. -/
def FpFormat.mag (F : FpFormat) (v : Nat) : Nat := v % F.signBit

/-- The pattern is a NaN (R616). -/
def FpFormat.isNaN (F : FpFormat) (v : Nat) : Bool := decide (F.infBits < F.mag v)

/-- The pattern is a signaling NaN: the top fraction bit is 0 (R616). -/
def FpFormat.isSNaN (F : FpFormat) (v : Nat) : Bool := decide (F.infBits < F.mag v ∧ F.mag v < F.canonicalNaN)

/-- The value of a pattern (R616). -/
def FpFormat.decode (F : FpFormat) (v : Nat) : FpVal :=
  let mag := F.mag v
  let ex := mag / 2 ^ F.fracBits
  let fr := mag % 2 ^ F.fracBits
  if F.infBits < mag then .nan (F.isSNaN v)
  else if mag = F.infBits then .inf (F.neg v)
  else if ex = 0 then .fin (F.neg v) fr F.qmin
  else .fin (F.neg v) (2 ^ F.fracBits + fr) (F.qmin + (ex - 1))

/-- A result: its pattern and the flags it sets. -/
structure FpResult where
  bits  : Nat
  flags : FpFlags
  deriving DecidableEq, Repr

/-- A pattern from a sign and a magnitude. -/
def FpFormat.signed (F : FpFormat) (neg : Bool) (mag : Nat) : Nat := if neg then F.signBit + mag else mag

/-- The canonical NaN with NV when the condition holds (R618, R619). -/
def FpFormat.nanResult (F : FpFormat) (invalid : Bool) : FpResult := ⟨F.canonicalNaN, flagIf invalid flagNV⟩

/-- m / 2^k rounded to an integer; `neg` is the sign of the value m stands for (R622). -/
def roundShift (rm : RMode) (neg : Bool) (m k : Nat) : Nat :=
  let q := m / 2 ^ k
  let r := m % 2 ^ k
  let up := match rm with
    | .rne => decide (2 ^ k < 2 * r) || (decide (2 * r = 2 ^ k) && decide (q % 2 = 1))
    | .rtz => false
    | .rdn => neg && decide (r ≠ 0)
    | .rup => !neg && decide (r ≠ 0)
    | .rmm => decide (2 ^ k ≤ 2 * r)
  if up then q + 1 else q

/-- m * 2^e rounded to a multiple of 2^q, as the multiple: exact when q ≤ e. -/
def roundTo (rm : RMode) (neg : Bool) (m : Nat) (e q : Int) : Nat :=
  if q ≤ e then m * 2 ^ (e - q).toNat else roundShift rm neg m (q - e).toNat

/-- m * 2^e is a multiple of 2^q. -/
def exactAt (m : Nat) (e q : Int) : Bool := if q ≤ e then true else decide (m % 2 ^ (q - e).toNat = 0)

/-- The number of binary digits of m. -/
def bitLength (m : Nat) : Nat := if m = 0 then 0 else Nat.log2 m + 1

/-- The magnitude an overflow delivers (R625). -/
def FpFormat.overflowMag (F : FpFormat) (rm : RMode) (neg : Bool) : Nat :=
  match rm with
  | .rne | .rmm => F.infBits
  | .rtz => F.infBits - 1
  | .rdn => if neg then F.infBits else F.infBits - 1
  | .rup => if neg then F.infBits - 1 else F.infBits

/-- Tiny after rounding: m * 2^e rounded to p digits with an unbounded exponent is below 2^emin (R624). -/
def FpFormat.tiny (F : FpFormat) (rm : RMode) (neg : Bool) (m : Nat) (e : Int) : Bool :=
  let q : Int := bitLength m + e - F.prec
  decide (q ≤ F.emin) && decide (roundTo rm neg m e q < 2 ^ (F.emin - q).toNat)

/-- The exponent of the last place of the result for m * 2^e: p digits, but never below the subnormal place. -/
def FpFormat.ulpExp (F : FpFormat) (m : Nat) (e : Int) : Int := max (bitLength m + e - F.prec) F.qmin

/-- `round` of the exact value (-1)^neg * m * 2^e (R627). The pattern of n units of place q is (q - qmin) * 2^(p-1) + n,
a carry into the next exponent included. -/
def FpFormat.roundPack (F : FpFormat) (rm : RMode) (neg : Bool) (m : Nat) (e : Int) : FpResult :=
  if m = 0 then ⟨F.signed neg 0, 0⟩
  else
    let q := F.ulpExp m e
    let mag := (q - F.qmin).toNat * 2 ^ F.fracBits + roundTo rm neg m e q
    if F.infBits ≤ mag then ⟨F.signed neg (F.overflowMag rm neg), flagOF ||| flagNX⟩
    else
      let inexact := !exactAt m e q
      ⟨F.signed neg mag, flagIf inexact flagNX ||| flagIf (inexact && F.tiny rm neg m e) flagUF⟩

/-- A signed integer from a sign and a magnitude. -/
def signedInt (neg : Bool) (m : Nat) : Int := if neg then -(m : Int) else m

/-- The sum of two finite values, rounded; an exact zero has the sign of R626. -/
def FpFormat.sumFin (F : FpFormat) (rm : RMode) (n₁ : Bool) (m₁ : Nat) (e₁ : Int) (n₂ : Bool) (m₂ : Nat) (e₂ : Int) :
    FpResult :=
  let e := min e₁ e₂
  let t : Int := signedInt n₁ (m₁ * 2 ^ (e₁ - e).toNat) + signedInt n₂ (m₂ * 2 ^ (e₂ - e).toNat)
  if t = 0 then ⟨F.signed (if n₁ = n₂ then n₁ else rm == .rdn) 0, 0⟩
  else F.roundPack rm (decide (t < 0)) t.natAbs e

/-- The sum of two decoded values (R628); a NaN among them sets NV when one of them is signaling. -/
def FpFormat.sum (F : FpFormat) (rm : RMode) : FpVal → FpVal → FpResult
  | .nan s₁, .nan s₂ => F.nanResult (s₁ || s₂)
  | .nan s₁, _ => F.nanResult s₁
  | _, .nan s₂ => F.nanResult s₂
  | .inf n₁, .inf n₂ => if n₁ = n₂ then ⟨F.signed n₁ F.infBits, 0⟩ else F.nanResult true
  | .inf n₁, .fin _ _ _ => ⟨F.signed n₁ F.infBits, 0⟩
  | .fin _ _ _, .inf n₂ => ⟨F.signed n₂ F.infBits, 0⟩
  | .fin n₁ m₁ e₁, .fin n₂ m₂ e₂ => F.sumFin rm n₁ m₁ e₁ n₂ m₂ e₂

/-- The value with the opposite sign; a NaN is left. -/
def FpVal.negate : FpVal → FpVal
  | .nan s => .nan s
  | .inf n => .inf (!n)
  | .fin n m e => .fin (!n) m e

/-- FADD (R628). -/
def FpFormat.add (F : FpFormat) (rm : RMode) (a b : Nat) : FpResult := F.sum rm (F.decode a) (F.decode b)

/-- FSUB (R628). -/
def FpFormat.sub (F : FpFormat) (rm : RMode) (a b : Nat) : FpResult := F.sum rm (F.decode a) (F.decode b).negate

/-- FMUL (R628). -/
def FpFormat.mul (F : FpFormat) (rm : RMode) (a b : Nat) : FpResult :=
  match F.decode a, F.decode b with
  | .nan s₁, .nan s₂ => F.nanResult (s₁ || s₂)
  | .nan s₁, _ => F.nanResult s₁
  | _, .nan s₂ => F.nanResult s₂
  | .inf n₁, .inf n₂ => ⟨F.signed (n₁ != n₂) F.infBits, 0⟩
  | .inf n₁, .fin n₂ m₂ _ => if m₂ = 0 then F.nanResult true else ⟨F.signed (n₁ != n₂) F.infBits, 0⟩
  | .fin n₁ m₁ _, .inf n₂ => if m₁ = 0 then F.nanResult true else ⟨F.signed (n₁ != n₂) F.infBits, 0⟩
  | .fin n₁ m₁ e₁, .fin n₂ m₂ e₂ => F.roundPack rm (n₁ != n₂) (m₁ * m₂) (e₁ + e₂)

/-- The quotient m₁ / m₂ * 2^e of nonzero m₁ and m₂ with at least p + 2 digits, and one more bit that is 1 when digits
were cut off. -/
def FpFormat.quotient (F : FpFormat) (rm : RMode) (neg : Bool) (m₁ m₂ : Nat) (e : Int) : FpResult :=
  let k := F.prec + 2 + bitLength m₂
  let q := m₁ * 2 ^ k / m₂
  let cut := m₁ * 2 ^ k % m₂
  F.roundPack rm neg (2 * q + if cut = 0 then 0 else 1) (e - k - 1)

/-- FDIV (R628): a finite nonzero value over zero is ∞ with DZ. -/
def FpFormat.div (F : FpFormat) (rm : RMode) (a b : Nat) : FpResult :=
  match F.decode a, F.decode b with
  | .nan s₁, .nan s₂ => F.nanResult (s₁ || s₂)
  | .nan s₁, _ => F.nanResult s₁
  | _, .nan s₂ => F.nanResult s₂
  | .inf _, .inf _ => F.nanResult true
  | .inf n₁, .fin n₂ _ _ => ⟨F.signed (n₁ != n₂) F.infBits, 0⟩
  | .fin n₁ _ _, .inf n₂ => ⟨F.signed (n₁ != n₂) 0, 0⟩
  | .fin n₁ m₁ e₁, .fin n₂ m₂ e₂ =>
    if m₂ = 0 then
      if m₁ = 0 then F.nanResult true else ⟨F.signed (n₁ != n₂) F.infBits, flagDZ⟩
    else if m₁ = 0 then ⟨F.signed (n₁ != n₂) 0, 0⟩
    else F.quotient rm (n₁ != n₂) m₁ m₂ (e₁ - e₂)

/-- The integer square root, digit by digit from bit k - 1 down. -/
def isqrtFrom : Nat → Nat → Nat → Nat
  | 0, _, r => r
  | k + 1, n, r => if (r + 2 ^ k) * (r + 2 ^ k) ≤ n then isqrtFrom k n (r + 2 ^ k) else isqrtFrom k n r

/-- The largest r with r * r ≤ n. -/
def isqrt (n : Nat) : Nat := isqrtFrom (bitLength n) n 0

/-- The square root of m * 2^e with at least p + 2 digits, and one more bit that is 1 when it is not exact. -/
def FpFormat.root (F : FpFormat) (rm : RMode) (m : Nat) (e : Int) : FpResult :=
  let j : Nat := 2 * F.prec + 4 + (e % 2).toNat
  let n := m * 2 ^ j
  let r := isqrt n
  F.roundPack rm false (2 * r + if r * r = n then 0 else 1) ((e - j) / 2 - 1)

/-- FSQRT (R628). -/
def FpFormat.sqrt (F : FpFormat) (rm : RMode) (a : Nat) : FpResult :=
  match F.decode a with
  | .nan s => F.nanResult s
  | .inf n => if n then F.nanResult true else ⟨F.infBits, 0⟩
  | .fin n m e =>
    if m = 0 then ⟨F.signed n 0, 0⟩
    else if n then F.nanResult true
    else F.root rm m e

/-- A product as an exact decoded value, and whether it is the invalid 0 * ∞ (R629). -/
def mulExact : FpVal → FpVal → FpVal × Bool
  | .nan s₁, .nan s₂ => (.nan (s₁ || s₂), false)
  | .nan s₁, _ => (.nan s₁, false)
  | _, .nan s₂ => (.nan s₂, false)
  | .inf n₁, .inf n₂ => (.inf (n₁ != n₂), false)
  | .inf n₁, .fin n₂ m₂ _ => if m₂ = 0 then (.nan true, true) else (.inf (n₁ != n₂), false)
  | .fin n₁ m₁ _, .inf n₂ => if m₁ = 0 then (.nan true, true) else (.inf (n₁ != n₂), false)
  | .fin n₁ m₁ e₁, .fin n₂ m₂ e₂ => (.fin (n₁ != n₂) (m₁ * m₂) (e₁ + e₂), false)

/-- ±(a * b) ± c with one rounding (R629): `negProd` and `negAdd` are the signs of FMADD (neither), FMSUB (c), FNMSUB
(the product) and FNMADD (both). -/
def FpFormat.fma (F : FpFormat) (rm : RMode) (negProd negAdd : Bool) (a b c : Nat) : FpResult :=
  let p := mulExact (F.decode a) (F.decode b)
  if p.2 then F.nanResult true
  else
    let pv := if negProd then p.1.negate else p.1
    let cv := if negAdd then (F.decode c).negate else F.decode c
    F.sum rm pv cv

/-- A pattern's place in the order of values: -0 and +0 are the same place. For patterns that are no NaN. -/
def FpFormat.key (F : FpFormat) (v : Nat) : Int := signedInt (F.neg v) (F.mag v)

/-- FMIN and FMAX (R630): -0 is below +0, one NaN gives the other input, two give the canonical NaN. -/
def FpFormat.minMax (F : FpFormat) (max : Bool) (a b : Nat) : FpResult :=
  let fl := flagIf (F.isSNaN a || F.isSNaN b) flagNV
  if F.isNaN a then
    if F.isNaN b then ⟨F.canonicalNaN, fl⟩ else ⟨b, fl⟩
  else if F.isNaN b then ⟨a, fl⟩
  else
    let aBelow : Bool := decide (F.key a < F.key b) || (decide (F.key a = F.key b) && F.neg a)
    ⟨if aBelow != max then a else b, fl⟩

/-- The comparisons (R631). -/
inductive FpCompare where
  | eq
  | lt
  | le
  deriving DecidableEq, Repr

/-- The result and flags of FEQ, FLT, FLE: FEQ is quiet, the others signal on any NaN (R631). -/
def FpFormat.compare (F : FpFormat) (k : FpCompare) (a b : Nat) : Bool × FpFlags :=
  let anyNaN := F.isNaN a || F.isNaN b
  let invalid := match k with
    | .eq => F.isSNaN a || F.isSNaN b
    | .lt | .le => anyNaN
  let holds := match k with
    | .eq => decide (F.key a = F.key b)
    | .lt => decide (F.key a < F.key b)
    | .le => decide (F.key a ≤ F.key b)
  (!anyNaN && holds, flagIf invalid flagNV)

/-- FCLASS: the number of the one bit set (R632). -/
def FpFormat.classBit (F : FpFormat) (v : Nat) : Nat :=
  let n := F.neg v
  let mag := F.mag v
  if F.isNaN v then (if F.isSNaN v then 8 else 9)
  else if mag = F.infBits then (if n then 0 else 7)
  else if mag = 0 then (if n then 3 else 4)
  else if mag < 2 ^ F.fracBits then (if n then 2 else 5)
  else (if n then 1 else 6)

/-- An integer destination: its least and greatest value (R633). -/
structure IntRange where
  lo : Int
  hi : Int
  deriving DecidableEq, Repr

/-- The range of an integer of `n` bits. -/
def intRange (isSigned : Bool) (n : Nat) : IntRange :=
  if isSigned then ⟨-2 ^ (n - 1), 2 ^ (n - 1) - 1⟩ else ⟨0, 2 ^ n - 1⟩

/-- Conversion to integer: the value and flags (R633). -/
def FpFormat.toInt (F : FpFormat) (rm : RMode) (r : IntRange) (v : Nat) : Int × FpFlags :=
  match F.decode v with
  | .nan _ => (r.hi, flagNV)
  | .inf n => (if n then r.lo else r.hi, flagNV)
  | .fin n m e =>
    let t := signedInt n (roundTo rm n m e 0)
    if t < r.lo then (r.lo, flagNV)
    else if r.hi < t then (r.hi, flagNV)
    else (t, flagIf (!exactAt m e 0) flagNX)

/-- Conversion from integer (R634). -/
def FpFormat.ofInt (F : FpFormat) (rm : RMode) (i : Int) : FpResult := F.roundPack rm (decide (i < 0)) i.natAbs 0

/-- Conversion between formats (R635). -/
def FpFormat.convert (src dst : FpFormat) (rm : RMode) (v : Nat) : FpResult :=
  match src.decode v with
  | .nan s => dst.nanResult s
  | .inf n => ⟨dst.signed n dst.infBits, 0⟩
  | .fin n m e => dst.roundPack rm n m e

end Sys2Proof.Machine
end

