-- ==== Sys2Proof/Machine/FpCommon.lean ====
section
/-! DEFINITION. What the single- and double-precision instructions share (47_fp_common.md R610 to R639). -/

namespace Sys2Proof.Machine

/-- The precision of an instruction. -/
inductive Prec where
  | single
  | double
  deriving DecidableEq, Repr

/-- Its format (R616). -/
def Prec.fmt : Prec → FpFormat
  | .single => binary32
  | .double => binary64

/-- An FP source: through the box for single, raw for double (R612, R614). -/
def State.readFp (s : State) (p : Prec) (i : Reg) : Nat :=
  match p with
  | .single => (s.unboxS i).toNat
  | .double => (s.readD i).toNat

/-- An FP destination (R613, R614). -/
def State.writeFp (s : State) (p : Prec) (i : Reg) (bits : Nat) : State :=
  match p with
  | .single => s.writeS i (BitVec.ofNat 32 bits)
  | .double => s.writeD i (BitVec.ofNat 64 bits)

/-- An instruction with an rm field: enabled, then RM(rm), before any other effect (R623, R639). -/
def State.withRounding (s : State) (i : Instr) (rm : BitVec 3) (k : RMode → State) : State :=
  s.whenEnabled i (match effectiveRM rm s.frm with
    | none => s.illegal i
    | some m => k m)

/-- Write an FP result, set FS Dirty, accrue its flags and advance (R639). -/
def State.fpResult (s : State) (p : Prec) (rd : Reg) (r : FpResult) : State :=
  ((s.writeFp p rd r.bits).accrue r.flags).advance 4

/-- Write an integer result, accrue its flags and advance. -/
def State.fpToX (s : State) (rd : Reg) (v : BitVec s.w) (fl : FpFlags) : State := ((s.wrX rd v).accrue fl).advance 4

/-- FMADD, FMSUB, FNMSUB, FNMADD (R629). -/
def State.opFma (s : State) (p : Prec) (negProd negAdd : Bool) (rd rs1 rs2 rs3 : Reg) (m : RMode) : State :=
  s.fpResult p rd (p.fmt.fma m negProd negAdd (s.readFp p rs1) (s.readFp p rs2) (s.readFp p rs3))

/-- Sign injection: the magnitude of rs1 with a sign made from both signs (R636). -/
def State.opSgnj (s : State) (p : Prec) (rd rs1 rs2 : Reg) (sign : Bool → Bool → Bool) : State :=
  let a := s.readFp p rs1
  let b := s.readFp p rs2
  (s.writeFp p rd (p.fmt.signed (sign (p.fmt.neg a) (p.fmt.neg b)) (p.fmt.mag a))).advance 4

/-- FMIN and FMAX (R630). -/
def State.opMinMax (s : State) (p : Prec) (max : Bool) (rd rs1 rs2 : Reg) : State :=
  s.fpResult p rd (p.fmt.minMax max (s.readFp p rs1) (s.readFp p rs2))

/-- FEQ, FLT, FLE (R631). -/
def State.opFpCompare (s : State) (p : Prec) (k : FpCompare) (rd rs1 rs2 : Reg) : State :=
  let r := p.fmt.compare k (s.readFp p rs1) (s.readFp p rs2)
  s.fpToX rd (if r.1 then BitVec.ofNat s.w 1 else 0) r.2

/-- FCLASS: a one-hot mask (R632). -/
def State.opFclass (s : State) (p : Prec) (rd rs1 : Reg) : State :=
  s.fpToX rd (BitVec.ofNat s.w (2 ^ p.fmt.classBit (s.readFp p rs1))) 0

/-- FCVT to an integer of `n` bits, its low n bits sign-extended to XLEN (R633). -/
def State.opToInt (s : State) (p : Prec) (isSigned : Bool) (n : Nat) (rd rs1 : Reg) (m : RMode) : State :=
  let r := p.fmt.toInt m (intRange isSigned n) (s.readFp p rs1)
  s.fpToX rd ((BitVec.ofInt n r.1).signExtend s.w) r.2

/-- FCVT from the integer in the low `n` bits of x[rs1] (R634). -/
def State.opOfInt (s : State) (p : Prec) (isSigned : Bool) (n : Nat) (rd rs1 : Reg) (m : RMode) : State :=
  let v : BitVec n := (s.rdX s.w rs1).setWidth n
  s.fpResult p rd (p.fmt.ofInt m (if isSigned then v.toInt else (v.toNat : Int)))

/-- FLW and FLD: bits without interpretation; a faulting load writes nothing (R638). -/
def State.opFload (s : State) (p : Prec) (len : Nat) (rd rs1 : Reg) (imm : BitVec s.w) : State :=
  match p with
  | .single => s.load (s.effAddr s.w rs1 imm) 4 fun v => (s.writeS rd v).advance len
  | .double => s.load (s.effAddr s.w rs1 imm) 8 fun v => (s.writeD rd v).advance len

/-- FSW and FSD: the raw low word, or the whole slot (R638). -/
def State.opFstore (s : State) (p : Prec) (len : Nat) (rs1 rs2 : Reg) (imm : BitVec s.w) : State :=
  match p with
  | .single => s.store len (s.effAddr s.w rs1 imm) 4 ((s.rdF rs2).setWidth 32)
  | .double => s.store len (s.effAddr s.w rs1 imm) 8 (s.rdF rs2)

end Sys2Proof.Machine
end

