-- ==== Sys2Proof/Machine/System.lean ====
section
/-! DEFINITION. Fences, environment calls, CSR and privileged instructions (43_system.md). -/

namespace Sys2Proof.Machine

/-- EBREAK: Breakpoint with tval = pc (R423). -/
def State.opEbreak (s : State) : State := s.raise .breakpoint s.pc

/-- A CSR instruction (R424): fflags, frm and fcsr are the block's, every other number goes to CsrAccess. The CSR is
written before rd, and rd gets the old value, or 0 when it is not read. -/
def State.csrInstr (s : State) (i : Instr) (rd : Reg) (csr : BitVec 12) (newOf : BitVec s.w → BitVec s.w)
    (doRead doWrite : Bool) : State :=
  if isFpCsr csr then
    if s.cfg.fOn then
      let old := s.fpCsrRead s.w csr
      let t := if doWrite then s.fpCsrWrite csr (newOf old) else s
      t.result 4 rd (if doRead then old else 0)
    else s.illegal i
  else match s.csrAccess csr newOf doRead doWrite with
    | none => s.illegal i
    | some (old, t) => t.result 4 rd old

/-- R420: an ordering point, which one hart in program order does not see. -/
def execFence (_fm _pred _succ : BitVec 4) (_rs1 _rd : Reg) (s : State) : Host.Outcome State Fault Refusal :=
  .next (s.advance 4)

/-- R421. -/
def execFenceI (_imm : BitVec 12) (_rs1 _rd : Reg) (s : State) : Host.Outcome State Fault Refusal :=
  .next (s.advance 4)

/-- R422: the cause is chosen by CurrentPriv(). -/
def execEcall (s : State) : Host.Outcome State Fault Refusal := .next (s.raise (ecallCause s.unit.priv) 0)

/-- R423. -/
def execEbreak (s : State) : Host.Outcome State Fault Refusal := .next s.opEbreak

/-- R425. -/
def execCsrrw (rd : Reg) (csr : BitVec 12) (rs1 : Reg) (s : State) : Host.Outcome State Fault Refusal :=
  .next (s.csrInstr (.csrrw rd csr rs1) rd csr (fun _ => s.rdX s.w rs1) (rd != 0) true)

/-- R426. -/
def execCsrrs (rd : Reg) (csr : BitVec 12) (rs1 : Reg) (s : State) : Host.Outcome State Fault Refusal :=
  .next (s.csrInstr (.csrrs rd csr rs1) rd csr (fun old => old ||| s.rdX s.w rs1) true (rs1 != 0))

/-- R427. -/
def execCsrrc (rd : Reg) (csr : BitVec 12) (rs1 : Reg) (s : State) : Host.Outcome State Fault Refusal :=
  .next (s.csrInstr (.csrrc rd csr rs1) rd csr (fun old => old &&& ~~~s.rdX s.w rs1) true (rs1 != 0))

/-- R428. -/
def execCsrrwi (rd : Reg) (csr : BitVec 12) (uimm : BitVec 5) (s : State) : Host.Outcome State Fault Refusal :=
  .next (s.csrInstr (.csrrwi rd csr uimm) rd csr (fun _ => uimm.setWidth s.w) (rd != 0) true)

/-- R429. -/
def execCsrrsi (rd : Reg) (csr : BitVec 12) (uimm : BitVec 5) (s : State) : Host.Outcome State Fault Refusal :=
  .next (s.csrInstr (.csrrsi rd csr uimm) rd csr (fun old => old ||| uimm.setWidth s.w) true (uimm != 0))

/-- R430. -/
def execCsrrci (rd : Reg) (csr : BitVec 12) (uimm : BitVec 5) (s : State) : Host.Outcome State Fault Refusal :=
  .next (s.csrInstr (.csrrci rd csr uimm) rd csr (fun old => old &&& ~~~uimm.setWidth s.w) true (uimm != 0))

/-- R431. -/
def execSret (s : State) : Host.Outcome State Fault Refusal := .next (s.privileged .sret .sret)

/-- R432. -/
def execMret (s : State) : Host.Outcome State Fault Refusal := .next (s.privileged .mret .mret)

/-- R433: it completes as a no-op unless PrivOp refuses it. -/
def execWfi (s : State) : Host.Outcome State Fault Refusal := .next (s.privileged .wfi .wfi)

/-- R434: the unit is given x[rs1] and x[rs2] and whether the fields are x0. -/
def execSfenceVma (rs1 rs2 : Reg) (s : State) : Host.Outcome State Fault Refusal :=
  .next (s.privileged (.sfenceVma rs1 rs2) (.sfenceVma (s.rdX 64 rs1) (s.rdX 64 rs2) (rs1 == 0) (rs2 == 0)))

end Sys2Proof.Machine
end

