-- ==== Sys2Proof/Machine/Compressed.lean ====
section
/-! DEFINITION. The compressed instructions (44_compressed.md). Each executes as its 32-bit expansion with length 2: the
default next pc and the link are pc + 2, and an IllegalInstruction reports the parcel (R460). -/

namespace Sys2Proof.Machine

/-- R462. -/
def execCAddi4spn (rd : CReg) (imm : BitVec 8) (s : State) : Host.Outcome State Fault Refusal :=
  .next (s.whenEnabled (.cAddi4spn rd imm) (s.opAddi 2 (creg rd) sp (uimm4spn s.w imm)))

/-- R463. -/
def execCFld (rd rs1 : CReg) (uimm : BitVec 5) (s : State) : Host.Outcome State Fault Refusal :=
  .next (s.whenEnabled (.cFld rd rs1 uimm) (s.opFload .double 2 (creg rd) (creg rs1) (uimmD s.w uimm)))

/-- R464. -/
def execCLw (rd rs1 : CReg) (uimm : BitVec 5) (s : State) : Host.Outcome State Fault Refusal :=
  .next (s.whenEnabled (.cLw rd rs1 uimm) (s.opLoad 2 4 (creg rd) (creg rs1) (uimmW s.w uimm)))

/-- R465. -/
def execCFlw (rd rs1 : CReg) (uimm : BitVec 5) (s : State) : Host.Outcome State Fault Refusal :=
  .next (s.whenEnabled (.cFlw rd rs1 uimm) (s.opFload .single 2 (creg rd) (creg rs1) (uimmW s.w uimm)))

/-- R466. -/
def execCLd (rd rs1 : CReg) (uimm : BitVec 5) (s : State) : Host.Outcome State Fault Refusal :=
  .next (s.whenEnabled (.cLd rd rs1 uimm) (s.opLoad 2 8 (creg rd) (creg rs1) (uimmD s.w uimm)))

/-- R467. -/
def execCFsd (rs1 rs2 : CReg) (uimm : BitVec 5) (s : State) : Host.Outcome State Fault Refusal :=
  .next (s.whenEnabled (.cFsd rs1 rs2 uimm) (s.opFstore .double 2 (creg rs1) (creg rs2) (uimmD s.w uimm)))

/-- R468. -/
def execCSw (rs1 rs2 : CReg) (uimm : BitVec 5) (s : State) : Host.Outcome State Fault Refusal :=
  .next (s.whenEnabled (.cSw rs1 rs2 uimm) (s.opStore 2 4 (creg rs1) (creg rs2) (uimmW s.w uimm)))

/-- R469. -/
def execCFsw (rs1 rs2 : CReg) (uimm : BitVec 5) (s : State) : Host.Outcome State Fault Refusal :=
  .next (s.whenEnabled (.cFsw rs1 rs2 uimm) (s.opFstore .single 2 (creg rs1) (creg rs2) (uimmW s.w uimm)))

/-- R470. -/
def execCSd (rs1 rs2 : CReg) (uimm : BitVec 5) (s : State) : Host.Outcome State Fault Refusal :=
  .next (s.whenEnabled (.cSd rs1 rs2 uimm) (s.opStore 2 8 (creg rs1) (creg rs2) (uimmD s.w uimm)))

/-- R472. -/
def execCNop (imm : BitVec 6) (s : State) : Host.Outcome State Fault Refusal :=
  .next (s.whenEnabled (.cNop imm) (s.opAddi 2 0 0 (imm6 s.w imm)))

/-- R473. -/
def execCAddi (rd : Reg) (imm : BitVec 6) (s : State) : Host.Outcome State Fault Refusal :=
  .next (s.whenEnabled (.cAddi rd imm) (s.opAddi 2 rd rd (imm6 s.w imm)))

/-- R474. -/
def execCJal (off : BitVec 11) (s : State) : Host.Outcome State Fault Refusal :=
  .next (s.whenEnabled (.cJal off) (s.opJal 2 ra (offCJ s.w off)))

/-- R475. -/
def execCAddiw (rd : Reg) (imm : BitVec 6) (s : State) : Host.Outcome State Fault Refusal :=
  .next (s.whenEnabled (.cAddiw rd imm) (s.opAddiw 2 rd rd (imm6 s.w imm)))

/-- R476. -/
def execCLi (rd : Reg) (imm : BitVec 6) (s : State) : Host.Outcome State Fault Refusal :=
  .next (s.whenEnabled (.cLi rd imm) (s.opAddi 2 rd 0 (imm6 s.w imm)))

/-- R477. -/
def execCAddi16sp (imm : BitVec 6) (s : State) : Host.Outcome State Fault Refusal :=
  .next (s.whenEnabled (.cAddi16sp imm) (s.opAddi 2 sp sp (imm16sp s.w imm)))

/-- R478. -/
def execCLui (rd : Reg) (imm : BitVec 6) (s : State) : Host.Outcome State Fault Refusal :=
  .next (s.whenEnabled (.cLui rd imm) (s.opLui 2 rd (immCLui s.w imm)))

/-- R479. -/
def execCSrli (rd : CReg) (shamt : BitVec 6) (s : State) : Host.Outcome State Fault Refusal :=
  .next (s.whenEnabled (.cSrli rd shamt) (s.opSrli 2 (creg rd) (creg rd) shamt))

/-- R480. -/
def execCSrai (rd : CReg) (shamt : BitVec 6) (s : State) : Host.Outcome State Fault Refusal :=
  .next (s.whenEnabled (.cSrai rd shamt) (s.opSrai 2 (creg rd) (creg rd) shamt))

/-- R481. -/
def execCAndi (rd : CReg) (imm : BitVec 6) (s : State) : Host.Outcome State Fault Refusal :=
  .next (s.whenEnabled (.cAndi rd imm) (s.opAndi 2 (creg rd) (creg rd) (imm6 s.w imm)))

/-- R482. -/
def execCSub (rd rs2 : CReg) (s : State) : Host.Outcome State Fault Refusal :=
  .next (s.whenEnabled (.cSub rd rs2) (s.opSub 2 (creg rd) (creg rd) (creg rs2)))

/-- R483. -/
def execCXor (rd rs2 : CReg) (s : State) : Host.Outcome State Fault Refusal :=
  .next (s.whenEnabled (.cXor rd rs2) (s.opXor 2 (creg rd) (creg rd) (creg rs2)))

/-- R484. -/
def execCOr (rd rs2 : CReg) (s : State) : Host.Outcome State Fault Refusal :=
  .next (s.whenEnabled (.cOr rd rs2) (s.opOr 2 (creg rd) (creg rd) (creg rs2)))

/-- R485. -/
def execCAnd (rd rs2 : CReg) (s : State) : Host.Outcome State Fault Refusal :=
  .next (s.whenEnabled (.cAnd rd rs2) (s.opAnd 2 (creg rd) (creg rd) (creg rs2)))

/-- R486. -/
def execCSubw (rd rs2 : CReg) (s : State) : Host.Outcome State Fault Refusal :=
  .next (s.whenEnabled (.cSubw rd rs2) (s.opSubw 2 (creg rd) (creg rd) (creg rs2)))

/-- R487. -/
def execCAddw (rd rs2 : CReg) (s : State) : Host.Outcome State Fault Refusal :=
  .next (s.whenEnabled (.cAddw rd rs2) (s.opAddw 2 (creg rd) (creg rd) (creg rs2)))

/-- R488. -/
def execCJ (off : BitVec 11) (s : State) : Host.Outcome State Fault Refusal :=
  .next (s.whenEnabled (.cJ off) (s.opJal 2 0 (offCJ s.w off)))

/-- R489. -/
def execCBeqz (rs1 : CReg) (off : BitVec 8) (s : State) : Host.Outcome State Fault Refusal :=
  .next (s.whenEnabled (.cBeqz rs1 off) (s.opBranch 2 (s.rdX s.w (creg rs1) == 0) (offCB s.w off)))

/-- R490. -/
def execCBnez (rs1 : CReg) (off : BitVec 8) (s : State) : Host.Outcome State Fault Refusal :=
  .next (s.whenEnabled (.cBnez rs1 off) (s.opBranch 2 (s.rdX s.w (creg rs1) != 0) (offCB s.w off)))

/-- R491. -/
def execCSlli (rd : Reg) (shamt : BitVec 6) (s : State) : Host.Outcome State Fault Refusal :=
  .next (s.whenEnabled (.cSlli rd shamt) (s.opSlli 2 rd rd shamt))

/-- R492. -/
def execCFldsp (rd : Reg) (uimm : BitVec 6) (s : State) : Host.Outcome State Fault Refusal :=
  .next (s.whenEnabled (.cFldsp rd uimm) (s.opFload .double 2 rd sp (uimmDsp s.w uimm)))

/-- R493. -/
def execCLwsp (rd : Reg) (uimm : BitVec 6) (s : State) : Host.Outcome State Fault Refusal :=
  .next (s.whenEnabled (.cLwsp rd uimm) (s.opLoad 2 4 rd sp (uimmWsp s.w uimm)))

/-- R494. -/
def execCFlwsp (rd : Reg) (uimm : BitVec 6) (s : State) : Host.Outcome State Fault Refusal :=
  .next (s.whenEnabled (.cFlwsp rd uimm) (s.opFload .single 2 rd sp (uimmWsp s.w uimm)))

/-- R495. -/
def execCLdsp (rd : Reg) (uimm : BitVec 6) (s : State) : Host.Outcome State Fault Refusal :=
  .next (s.whenEnabled (.cLdsp rd uimm) (s.opLoad 2 8 rd sp (uimmDsp s.w uimm)))

/-- R496. -/
def execCJr (rs1 : Reg) (s : State) : Host.Outcome State Fault Refusal :=
  .next (s.whenEnabled (.cJr rs1) (s.opJalr 2 0 rs1 0))

/-- R497. -/
def execCMv (rd rs2 : Reg) (s : State) : Host.Outcome State Fault Refusal :=
  .next (s.whenEnabled (.cMv rd rs2) (s.opAdd 2 rd 0 rs2))

/-- R498. -/
def execCEbreak (s : State) : Host.Outcome State Fault Refusal :=
  .next (s.whenEnabled .cEbreak s.opEbreak)

/-- R499. -/
def execCJalr (rs1 : Reg) (s : State) : Host.Outcome State Fault Refusal :=
  .next (s.whenEnabled (.cJalr rs1) (s.opJalr 2 ra rs1 0))

/-- R500. -/
def execCAdd (rd rs2 : Reg) (s : State) : Host.Outcome State Fault Refusal :=
  .next (s.whenEnabled (.cAdd rd rs2) (s.opAdd 2 rd rd rs2))

/-- R501. -/
def execCFsdsp (rs2 : Reg) (uimm : BitVec 6) (s : State) : Host.Outcome State Fault Refusal :=
  .next (s.whenEnabled (.cFsdsp rs2 uimm) (s.opFstore .double 2 sp rs2 (uimmDsp s.w uimm)))

/-- R502. -/
def execCSwsp (rs2 : Reg) (uimm : BitVec 6) (s : State) : Host.Outcome State Fault Refusal :=
  .next (s.whenEnabled (.cSwsp rs2 uimm) (s.opStore 2 4 sp rs2 (uimmWsp s.w uimm)))

/-- R503. -/
def execCFswsp (rs2 : Reg) (uimm : BitVec 6) (s : State) : Host.Outcome State Fault Refusal :=
  .next (s.whenEnabled (.cFswsp rs2 uimm) (s.opFstore .single 2 sp rs2 (uimmWsp s.w uimm)))

/-- R504. -/
def execCSdsp (rs2 : Reg) (uimm : BitVec 6) (s : State) : Host.Outcome State Fault Refusal :=
  .next (s.whenEnabled (.cSdsp rs2 uimm) (s.opStore 2 8 sp rs2 (uimmDsp s.w uimm)))

end Sys2Proof.Machine
end

