-- ==== Sys2Proof/Machine/FpDouble.lean ====
section
/-! DEFINITION. The double-precision instructions (49_fp_double.md). -/

namespace Sys2Proof.Machine

/-- R720. -/
def execFld (rd rs1 : Reg) (imm : BitVec 12) (s : State) : Host.Outcome State Fault Refusal :=
  .next (s.whenEnabled (.fld rd rs1 imm) (s.opFload .double 4 rd rs1 (imm12 s.w imm)))

/-- R721. -/
def execFsd (rs1 rs2 : Reg) (imm : BitVec 12) (s : State) : Host.Outcome State Fault Refusal :=
  .next (s.whenEnabled (.fsd rs1 rs2 imm) (s.opFstore .double 4 rs1 rs2 (imm12 s.w imm)))

/-- R722. -/
def execFmaddD (rd rs1 rs2 rs3 : Reg) (rm : BitVec 3) (s : State) : Host.Outcome State Fault Refusal :=
  .next (s.withRounding (.fmaddD rd rs1 rs2 rs3 rm) rm (s.opFma .double false false rd rs1 rs2 rs3))

/-- R723. -/
def execFmsubD (rd rs1 rs2 rs3 : Reg) (rm : BitVec 3) (s : State) : Host.Outcome State Fault Refusal :=
  .next (s.withRounding (.fmsubD rd rs1 rs2 rs3 rm) rm (s.opFma .double false true rd rs1 rs2 rs3))

/-- R724. -/
def execFnmsubD (rd rs1 rs2 rs3 : Reg) (rm : BitVec 3) (s : State) : Host.Outcome State Fault Refusal :=
  .next (s.withRounding (.fnmsubD rd rs1 rs2 rs3 rm) rm (s.opFma .double true false rd rs1 rs2 rs3))

/-- R725. -/
def execFnmaddD (rd rs1 rs2 rs3 : Reg) (rm : BitVec 3) (s : State) : Host.Outcome State Fault Refusal :=
  .next (s.withRounding (.fnmaddD rd rs1 rs2 rs3 rm) rm (s.opFma .double true true rd rs1 rs2 rs3))

/-- R726. -/
def execFaddD (rd rs1 rs2 : Reg) (rm : BitVec 3) (s : State) : Host.Outcome State Fault Refusal :=
  .next (s.withRounding (.faddD rd rs1 rs2 rm) rm fun m =>
    s.fpResult .double rd (binary64.add m (s.readFp .double rs1) (s.readFp .double rs2)))

/-- R727. -/
def execFsubD (rd rs1 rs2 : Reg) (rm : BitVec 3) (s : State) : Host.Outcome State Fault Refusal :=
  .next (s.withRounding (.fsubD rd rs1 rs2 rm) rm fun m =>
    s.fpResult .double rd (binary64.sub m (s.readFp .double rs1) (s.readFp .double rs2)))

/-- R728. -/
def execFmulD (rd rs1 rs2 : Reg) (rm : BitVec 3) (s : State) : Host.Outcome State Fault Refusal :=
  .next (s.withRounding (.fmulD rd rs1 rs2 rm) rm fun m =>
    s.fpResult .double rd (binary64.mul m (s.readFp .double rs1) (s.readFp .double rs2)))

/-- R729. -/
def execFdivD (rd rs1 rs2 : Reg) (rm : BitVec 3) (s : State) : Host.Outcome State Fault Refusal :=
  .next (s.withRounding (.fdivD rd rs1 rs2 rm) rm fun m =>
    s.fpResult .double rd (binary64.div m (s.readFp .double rs1) (s.readFp .double rs2)))

/-- R730. -/
def execFsqrtD (rd rs1 : Reg) (rm : BitVec 3) (s : State) : Host.Outcome State Fault Refusal :=
  .next (s.withRounding (.fsqrtD rd rs1 rm) rm fun m =>
    s.fpResult .double rd (binary64.sqrt m (s.readFp .double rs1)))

/-- R731. -/
def execFsgnjD (rd rs1 rs2 : Reg) (s : State) : Host.Outcome State Fault Refusal :=
  .next (s.whenEnabled (.fsgnjD rd rs1 rs2) (s.opSgnj .double rd rs1 rs2 (fun _ b => b)))

/-- R732. -/
def execFsgnjnD (rd rs1 rs2 : Reg) (s : State) : Host.Outcome State Fault Refusal :=
  .next (s.whenEnabled (.fsgnjnD rd rs1 rs2) (s.opSgnj .double rd rs1 rs2 (fun _ b => !b)))

/-- R733. -/
def execFsgnjxD (rd rs1 rs2 : Reg) (s : State) : Host.Outcome State Fault Refusal :=
  .next (s.whenEnabled (.fsgnjxD rd rs1 rs2) (s.opSgnj .double rd rs1 rs2 (fun a b => a != b)))

/-- R734. -/
def execFminD (rd rs1 rs2 : Reg) (s : State) : Host.Outcome State Fault Refusal :=
  .next (s.whenEnabled (.fminD rd rs1 rs2) (s.opMinMax .double false rd rs1 rs2))

/-- R735. -/
def execFmaxD (rd rs1 rs2 : Reg) (s : State) : Host.Outcome State Fault Refusal :=
  .next (s.whenEnabled (.fmaxD rd rs1 rs2) (s.opMinMax .double true rd rs1 rs2))

/-- R738. -/
def execFeqD (rd rs1 rs2 : Reg) (s : State) : Host.Outcome State Fault Refusal :=
  .next (s.whenEnabled (.feqD rd rs1 rs2) (s.opFpCompare .double .eq rd rs1 rs2))

/-- R739. -/
def execFltD (rd rs1 rs2 : Reg) (s : State) : Host.Outcome State Fault Refusal :=
  .next (s.whenEnabled (.fltD rd rs1 rs2) (s.opFpCompare .double .lt rd rs1 rs2))

/-- R740. -/
def execFleD (rd rs1 rs2 : Reg) (s : State) : Host.Outcome State Fault Refusal :=
  .next (s.whenEnabled (.fleD rd rs1 rs2) (s.opFpCompare .double .le rd rs1 rs2))

/-- R741. -/
def execFclassD (rd rs1 : Reg) (s : State) : Host.Outcome State Fault Refusal :=
  .next (s.whenEnabled (.fclassD rd rs1) (s.opFclass .double rd rs1))

/-- R742. -/
def execFcvtWD (rd rs1 : Reg) (rm : BitVec 3) (s : State) : Host.Outcome State Fault Refusal :=
  .next (s.withRounding (.fcvtWD rd rs1 rm) rm (s.opToInt .double true 32 rd rs1))

/-- R743. -/
def execFcvtWuD (rd rs1 : Reg) (rm : BitVec 3) (s : State) : Host.Outcome State Fault Refusal :=
  .next (s.withRounding (.fcvtWuD rd rs1 rm) rm (s.opToInt .double false 32 rd rs1))

/-- R744. -/
def execFcvtLD (rd rs1 : Reg) (rm : BitVec 3) (s : State) : Host.Outcome State Fault Refusal :=
  .next (s.withRounding (.fcvtLD rd rs1 rm) rm (s.opToInt .double true 64 rd rs1))

/-- R745. -/
def execFcvtLuD (rd rs1 : Reg) (rm : BitVec 3) (s : State) : Host.Outcome State Fault Refusal :=
  .next (s.withRounding (.fcvtLuD rd rs1 rm) rm (s.opToInt .double false 64 rd rs1))

/-- R746. -/
def execFcvtDW (rd rs1 : Reg) (rm : BitVec 3) (s : State) : Host.Outcome State Fault Refusal :=
  .next (s.withRounding (.fcvtDW rd rs1 rm) rm (s.opOfInt .double true 32 rd rs1))

/-- R747. -/
def execFcvtDWu (rd rs1 : Reg) (rm : BitVec 3) (s : State) : Host.Outcome State Fault Refusal :=
  .next (s.withRounding (.fcvtDWu rd rs1 rm) rm (s.opOfInt .double false 32 rd rs1))

/-- R748. -/
def execFcvtDL (rd rs1 : Reg) (rm : BitVec 3) (s : State) : Host.Outcome State Fault Refusal :=
  .next (s.withRounding (.fcvtDL rd rs1 rm) rm (s.opOfInt .double true 64 rd rs1))

/-- R749. -/
def execFcvtDLu (rd rs1 : Reg) (rm : BitVec 3) (s : State) : Host.Outcome State Fault Refusal :=
  .next (s.withRounding (.fcvtDLu rd rs1 rm) rm (s.opOfInt .double false 64 rd rs1))

/-- R736. -/
def execFcvtSD (rd rs1 : Reg) (rm : BitVec 3) (s : State) : Host.Outcome State Fault Refusal :=
  .next (s.withRounding (.fcvtSD rd rs1 rm) rm fun m =>
    s.fpResult .single rd (binary64.convert binary32 m (s.readFp .double rs1)))

/-- R737. -/
def execFcvtDS (rd rs1 : Reg) (rm : BitVec 3) (s : State) : Host.Outcome State Fault Refusal :=
  .next (s.withRounding (.fcvtDS rd rs1 rm) rm fun m =>
    s.fpResult .double rd (binary32.convert binary64 m (s.readFp .single rs1)))

/-- R750. -/
def execFmvXD (rd rs1 : Reg) (s : State) : Host.Outcome State Fault Refusal :=
  .next (s.whenEnabled (.fmvXD rd rs1) (s.result 4 rd (s.readD rs1)))

/-- R751. -/
def execFmvDX (rd rs1 : Reg) (s : State) : Host.Outcome State Fault Refusal :=
  .next (s.whenEnabled (.fmvDX rd rs1) ((s.writeD rd (s.rdX 64 rs1)).advance 4))

end Sys2Proof.Machine
end

