-- ==== Sys2Proof/Machine/FpSingle.lean ====
section
/-! DEFINITION. The single-precision instructions (48_fp_single.md). -/

namespace Sys2Proof.Machine

/-- R670. -/
def execFlw (rd rs1 : Reg) (imm : BitVec 12) (s : State) : Host.Outcome State Fault Refusal :=
  .next (s.whenEnabled (.flw rd rs1 imm) (s.opFload .single 4 rd rs1 (imm12 s.w imm)))

/-- R671. -/
def execFsw (rs1 rs2 : Reg) (imm : BitVec 12) (s : State) : Host.Outcome State Fault Refusal :=
  .next (s.whenEnabled (.fsw rs1 rs2 imm) (s.opFstore .single 4 rs1 rs2 (imm12 s.w imm)))

/-- R672. -/
def execFmaddS (rd rs1 rs2 rs3 : Reg) (rm : BitVec 3) (s : State) : Host.Outcome State Fault Refusal :=
  .next (s.withRounding (.fmaddS rd rs1 rs2 rs3 rm) rm (s.opFma .single false false rd rs1 rs2 rs3))

/-- R673. -/
def execFmsubS (rd rs1 rs2 rs3 : Reg) (rm : BitVec 3) (s : State) : Host.Outcome State Fault Refusal :=
  .next (s.withRounding (.fmsubS rd rs1 rs2 rs3 rm) rm (s.opFma .single false true rd rs1 rs2 rs3))

/-- R674. -/
def execFnmsubS (rd rs1 rs2 rs3 : Reg) (rm : BitVec 3) (s : State) : Host.Outcome State Fault Refusal :=
  .next (s.withRounding (.fnmsubS rd rs1 rs2 rs3 rm) rm (s.opFma .single true false rd rs1 rs2 rs3))

/-- R675. -/
def execFnmaddS (rd rs1 rs2 rs3 : Reg) (rm : BitVec 3) (s : State) : Host.Outcome State Fault Refusal :=
  .next (s.withRounding (.fnmaddS rd rs1 rs2 rs3 rm) rm (s.opFma .single true true rd rs1 rs2 rs3))

/-- R676. -/
def execFaddS (rd rs1 rs2 : Reg) (rm : BitVec 3) (s : State) : Host.Outcome State Fault Refusal :=
  .next (s.withRounding (.faddS rd rs1 rs2 rm) rm fun m =>
    s.fpResult .single rd (binary32.add m (s.readFp .single rs1) (s.readFp .single rs2)))

/-- R677. -/
def execFsubS (rd rs1 rs2 : Reg) (rm : BitVec 3) (s : State) : Host.Outcome State Fault Refusal :=
  .next (s.withRounding (.fsubS rd rs1 rs2 rm) rm fun m =>
    s.fpResult .single rd (binary32.sub m (s.readFp .single rs1) (s.readFp .single rs2)))

/-- R678. -/
def execFmulS (rd rs1 rs2 : Reg) (rm : BitVec 3) (s : State) : Host.Outcome State Fault Refusal :=
  .next (s.withRounding (.fmulS rd rs1 rs2 rm) rm fun m =>
    s.fpResult .single rd (binary32.mul m (s.readFp .single rs1) (s.readFp .single rs2)))

/-- R679. -/
def execFdivS (rd rs1 rs2 : Reg) (rm : BitVec 3) (s : State) : Host.Outcome State Fault Refusal :=
  .next (s.withRounding (.fdivS rd rs1 rs2 rm) rm fun m =>
    s.fpResult .single rd (binary32.div m (s.readFp .single rs1) (s.readFp .single rs2)))

/-- R680. -/
def execFsqrtS (rd rs1 : Reg) (rm : BitVec 3) (s : State) : Host.Outcome State Fault Refusal :=
  .next (s.withRounding (.fsqrtS rd rs1 rm) rm fun m =>
    s.fpResult .single rd (binary32.sqrt m (s.readFp .single rs1)))

/-- R681. -/
def execFsgnjS (rd rs1 rs2 : Reg) (s : State) : Host.Outcome State Fault Refusal :=
  .next (s.whenEnabled (.fsgnjS rd rs1 rs2) (s.opSgnj .single rd rs1 rs2 (fun _ b => b)))

/-- R682. -/
def execFsgnjnS (rd rs1 rs2 : Reg) (s : State) : Host.Outcome State Fault Refusal :=
  .next (s.whenEnabled (.fsgnjnS rd rs1 rs2) (s.opSgnj .single rd rs1 rs2 (fun _ b => !b)))

/-- R683. -/
def execFsgnjxS (rd rs1 rs2 : Reg) (s : State) : Host.Outcome State Fault Refusal :=
  .next (s.whenEnabled (.fsgnjxS rd rs1 rs2) (s.opSgnj .single rd rs1 rs2 (fun a b => a != b)))

/-- R684. -/
def execFminS (rd rs1 rs2 : Reg) (s : State) : Host.Outcome State Fault Refusal :=
  .next (s.whenEnabled (.fminS rd rs1 rs2) (s.opMinMax .single false rd rs1 rs2))

/-- R685. -/
def execFmaxS (rd rs1 rs2 : Reg) (s : State) : Host.Outcome State Fault Refusal :=
  .next (s.whenEnabled (.fmaxS rd rs1 rs2) (s.opMinMax .single true rd rs1 rs2))

/-- R691. -/
def execFeqS (rd rs1 rs2 : Reg) (s : State) : Host.Outcome State Fault Refusal :=
  .next (s.whenEnabled (.feqS rd rs1 rs2) (s.opFpCompare .single .eq rd rs1 rs2))

/-- R692. -/
def execFltS (rd rs1 rs2 : Reg) (s : State) : Host.Outcome State Fault Refusal :=
  .next (s.whenEnabled (.fltS rd rs1 rs2) (s.opFpCompare .single .lt rd rs1 rs2))

/-- R693. -/
def execFleS (rd rs1 rs2 : Reg) (s : State) : Host.Outcome State Fault Refusal :=
  .next (s.whenEnabled (.fleS rd rs1 rs2) (s.opFpCompare .single .le rd rs1 rs2))

/-- R694. -/
def execFclassS (rd rs1 : Reg) (s : State) : Host.Outcome State Fault Refusal :=
  .next (s.whenEnabled (.fclassS rd rs1) (s.opFclass .single rd rs1))

/-- R686. -/
def execFcvtWS (rd rs1 : Reg) (rm : BitVec 3) (s : State) : Host.Outcome State Fault Refusal :=
  .next (s.withRounding (.fcvtWS rd rs1 rm) rm (s.opToInt .single true 32 rd rs1))

/-- R687. -/
def execFcvtWuS (rd rs1 : Reg) (rm : BitVec 3) (s : State) : Host.Outcome State Fault Refusal :=
  .next (s.withRounding (.fcvtWuS rd rs1 rm) rm (s.opToInt .single false 32 rd rs1))

/-- R688. -/
def execFcvtLS (rd rs1 : Reg) (rm : BitVec 3) (s : State) : Host.Outcome State Fault Refusal :=
  .next (s.withRounding (.fcvtLS rd rs1 rm) rm (s.opToInt .single true 64 rd rs1))

/-- R689. -/
def execFcvtLuS (rd rs1 : Reg) (rm : BitVec 3) (s : State) : Host.Outcome State Fault Refusal :=
  .next (s.withRounding (.fcvtLuS rd rs1 rm) rm (s.opToInt .single false 64 rd rs1))

/-- R695. -/
def execFcvtSW (rd rs1 : Reg) (rm : BitVec 3) (s : State) : Host.Outcome State Fault Refusal :=
  .next (s.withRounding (.fcvtSW rd rs1 rm) rm (s.opOfInt .single true 32 rd rs1))

/-- R696. -/
def execFcvtSWu (rd rs1 : Reg) (rm : BitVec 3) (s : State) : Host.Outcome State Fault Refusal :=
  .next (s.withRounding (.fcvtSWu rd rs1 rm) rm (s.opOfInt .single false 32 rd rs1))

/-- R697. -/
def execFcvtSL (rd rs1 : Reg) (rm : BitVec 3) (s : State) : Host.Outcome State Fault Refusal :=
  .next (s.withRounding (.fcvtSL rd rs1 rm) rm (s.opOfInt .single true 64 rd rs1))

/-- R698. -/
def execFcvtSLu (rd rs1 : Reg) (rm : BitVec 3) (s : State) : Host.Outcome State Fault Refusal :=
  .next (s.withRounding (.fcvtSLu rd rs1 rm) rm (s.opOfInt .single false 64 rd rs1))

/-- R690: the raw low word, no box check. -/
def execFmvXW (rd rs1 : Reg) (s : State) : Host.Outcome State Fault Refusal :=
  .next (s.whenEnabled (.fmvXW rd rs1) (s.result 4 rd (sext32 s.w (low32 (s.rdF rs1)))))

/-- R699. -/
def execFmvWX (rd rs1 : Reg) (s : State) : Host.Outcome State Fault Refusal :=
  .next (s.whenEnabled (.fmvWX rd rs1) ((s.writeS rd (low32 (s.rdX s.w rs1))).advance 4))

end Sys2Proof.Machine
end

