-- ==== Sys2Proof/Machine/MulDiv.lean ====
section
/-! DEFINITION. The M extension (45_muldiv.md). -/

namespace Sys2Proof.Machine

/-- Bits 2w-1 to w of a product given as an integer (R534 to R536). -/
def highPart (w : Nat) (product : Int) : BitVec w := BitVec.ofInt w (product / 2 ^ w)

/-- Signed division with the corner cases of R531 (R538). -/
def divSigned {w : Nat} (a b : BitVec w) : BitVec w :=
  if b = 0 then BitVec.allOnes w
  else if a = BitVec.intMin w ∧ b = BitVec.allOnes w then a
  else BitVec.ofInt w (a.toInt.tdiv b.toInt)

/-- Signed remainder with the corner cases of R531 (R540). -/
def remSigned {w : Nat} (a b : BitVec w) : BitVec w :=
  if b = 0 then a
  else if a = BitVec.intMin w ∧ b = BitVec.allOnes w then 0
  else BitVec.ofInt w (a.toInt - b.toInt * a.toInt.tdiv b.toInt)

/-- Unsigned division (R539). -/
def divUnsigned {w : Nat} (a b : BitVec w) : BitVec w :=
  if b = 0 then BitVec.allOnes w else BitVec.ofNat w (a.toNat / b.toNat)

/-- Unsigned remainder (R541). -/
def remUnsigned {w : Nat} (a b : BitVec w) : BitVec w :=
  if b = 0 then a else BitVec.ofNat w (a.toNat % b.toNat)

/-- R533. -/
def execMul (rd rs1 rs2 : Reg) (s : State) : Host.Outcome State Fault Refusal :=
  .next (s.whenEnabled (.mul rd rs1 rs2) (s.result 4 rd (s.rdX s.w rs1 * s.rdX s.w rs2)))

/-- R534. -/
def execMulh (rd rs1 rs2 : Reg) (s : State) : Host.Outcome State Fault Refusal :=
  .next (s.whenEnabled (.mulh rd rs1 rs2)
    (s.result 4 rd (highPart s.w ((s.rdX s.w rs1).toInt * (s.rdX s.w rs2).toInt))))

/-- R535. -/
def execMulhsu (rd rs1 rs2 : Reg) (s : State) : Host.Outcome State Fault Refusal :=
  .next (s.whenEnabled (.mulhsu rd rs1 rs2)
    (s.result 4 rd (highPart s.w ((s.rdX s.w rs1).toInt * ((s.rdX s.w rs2).toNat : Int)))))

/-- R536. -/
def execMulhu (rd rs1 rs2 : Reg) (s : State) : Host.Outcome State Fault Refusal :=
  .next (s.whenEnabled (.mulhu rd rs1 rs2)
    (s.result 4 rd (highPart s.w (((s.rdX s.w rs1).toNat : Int) * ((s.rdX s.w rs2).toNat : Int)))))

/-- R538. -/
def execDiv (rd rs1 rs2 : Reg) (s : State) : Host.Outcome State Fault Refusal :=
  .next (s.whenEnabled (.div rd rs1 rs2) (s.result 4 rd (divSigned (s.rdX s.w rs1) (s.rdX s.w rs2))))

/-- R539. -/
def execDivu (rd rs1 rs2 : Reg) (s : State) : Host.Outcome State Fault Refusal :=
  .next (s.whenEnabled (.divu rd rs1 rs2) (s.result 4 rd (divUnsigned (s.rdX s.w rs1) (s.rdX s.w rs2))))

/-- R540. -/
def execRem (rd rs1 rs2 : Reg) (s : State) : Host.Outcome State Fault Refusal :=
  .next (s.whenEnabled (.rem rd rs1 rs2) (s.result 4 rd (remSigned (s.rdX s.w rs1) (s.rdX s.w rs2))))

/-- R541. -/
def execRemu (rd rs1 rs2 : Reg) (s : State) : Host.Outcome State Fault Refusal :=
  .next (s.whenEnabled (.remu rd rs1 rs2) (s.result 4 rd (remUnsigned (s.rdX s.w rs1) (s.rdX s.w rs2))))

/-- A W form: the operation on the low words, sign-extended (R532). -/
def State.opWord (s : State) (rd rs1 rs2 : Reg) (op : BitVec 32 → BitVec 32 → BitVec 32) : State :=
  s.result 4 rd (sext32 s.w (op (low32 (s.rdX s.w rs1)) (low32 (s.rdX s.w rs2))))

/-- R537. -/
def execMulw (rd rs1 rs2 : Reg) (s : State) : Host.Outcome State Fault Refusal :=
  .next (s.whenEnabled (.mulw rd rs1 rs2) (s.opWord rd rs1 rs2 fun a b => a * b))

/-- R542. -/
def execDivw (rd rs1 rs2 : Reg) (s : State) : Host.Outcome State Fault Refusal :=
  .next (s.whenEnabled (.divw rd rs1 rs2) (s.opWord rd rs1 rs2 divSigned))

/-- R543. -/
def execDivuw (rd rs1 rs2 : Reg) (s : State) : Host.Outcome State Fault Refusal :=
  .next (s.whenEnabled (.divuw rd rs1 rs2) (s.opWord rd rs1 rs2 divUnsigned))

/-- R544. -/
def execRemw (rd rs1 rs2 : Reg) (s : State) : Host.Outcome State Fault Refusal :=
  .next (s.whenEnabled (.remw rd rs1 rs2) (s.opWord rd rs1 rs2 remSigned))

/-- R545. -/
def execRemuw (rd rs1 rs2 : Reg) (s : State) : Host.Outcome State Fault Refusal :=
  .next (s.whenEnabled (.remuw rd rs1 rs2) (s.opWord rd rs1 rs2 remUnsigned))

end Sys2Proof.Machine
end

