-- ==== Sys2Proof/Machine/Fetch.lean ====
section
/-! DEFINITION. Fetching an instruction and what a step does around it (10_state.md R51, 60_exceptions.md R803, R804). -/

namespace Sys2Proof.Machine

/-- What a step does before it fetches: it takes one unit of budget (70_reset_and_hazards.md R870), forgets the Trap call
of the step before, and moves to a fresh draw (notes/assumptions/13.md, 16.md). -/
def State.begin (s : State) : State :=
  { s with budget := s.budget.map (· - 1), trapCall := none, draws := s.draws + 1 }

/-- pc is not IALIGN-aligned (R803). -/
def State.pcMisaligned (s : State) : Bool := decide (s.pc.toNat % s.cfg.instrAlign ≠ 0)

/-- Fetch the parcel or word at pc, or the exception of the fetch: misaligned pc, then the first parcel, then the second
(R803, R804, R809). -/
def State.fetchEnc (s : State) : Except (Cause × Word) Enc :=
  let a := s.rdPc s.w
  if s.pcMisaligned then .error (.instrMisaligned, s.pc)
  else match s.fetch16 a with
    | .error f => .error (faultCause .fetch f, a.setWidth 64)
    | .ok h =>
      if isFull h then
        let a₂ := a + BitVec.ofNat s.w 2
        match s.fetch16 a₂ with
        | .error f => .error (faultCause .fetch f, a₂.setWidth 64)
        | .ok h₂ => .ok (.full (h₂ ++ h))
      else .ok (.half h)

/-- Decode with the tables the hart holds (10_state.md R66). -/
def State.decodeEnc (s : State) (e : Enc) : Except Reject Instr := decodeWith s.cfg s.ftable s.ctable e

/-- The illegal-instruction handlers, full and compressed (30_encoding.md R180, 60_exceptions.md R802). -/
def State.illegalEnc (s : State) (e : Enc) : State := s.raise .illegalInstruction (e.bits.setWidth 64)

end Sys2Proof.Machine
end

