-- ==== Sys2Proof/Machine/Step.lean ====
section
/-! DEFINITION. One step: fetch, decode and execute one instruction as one indivisible step (10_state.md R51). -/

namespace Sys2Proof.Machine

/-- The step. An instruction address that is misaligned and a fetch that fails come before decode, and a word that is no
instruction raises IllegalInstruction with its bits (60_exceptions.md R803, R804, R807, R809). -/
def step (s : State) : Host.Outcome State Fault Refusal :=
  let t := s.begin
  match t.fetchEnc with
  | .error (c, tval) => .next (t.raise c tval)
  | .ok e =>
    match t.decodeEnc e with
    | .ok i => exec i t
    | .error _ => .next (t.illegalEnc e)

/-- The state with an instruction word stored where `step` fetches next, little-endian, the bytes above its bits zero up
to four bytes (notes/assumptions/18.md). -/
def State.withFetchWord (s : State) (nbits w : Nat) : State :=
  { s with mem := storeBytes s.mem (byteAddrs (s.rdPc s.w) 4) (tableWordBytes nbits w) }

end Sys2Proof.Machine
end

