-- ==== Sys2Proof/Machine/Batch.lean ====
section
/-! DEFINITION. What the host and the other agents do to the hart, outside the step: batches (10_state.md R69, R70),
configuration calls (70_reset_and_hazards.md R854, R865), the event flag, interrupts between batches
(60_exceptions.md R816, R817), and writes of other agents to the shared memory (46_atomic.md R572 b). -/

namespace Sys2Proof.Machine

/-- The batch is over before the next step: budget 0, event flag set, or the last step trapped (R70). -/
def State.batchOver (s : State) : Bool := s.budget == some 0 || s.eventFlag || s.trapCall.isSome

/-- Set the budget of a new batch and forget the trap that ended the last one. -/
def State.startBatch (s : State) (budget : Nat) : State := { s with budget := some budget, trapCall := none }

/-- Leave the batch. -/
def State.endBatch (s : State) : State := { s with budget := none }

/-- Steps until the batch is over; `fuel` bounds them and the budget is never larger. -/
def runSteps : Nat → State → Host.Outcome State Fault Refusal
  | 0, s => .next s
  | fuel + 1, s =>
    if s.batchOver then .next s
    else match step s with
      | .next t => runSteps fuel t
      | .fault r => .fault r
      | .refused r => .refused r

/-- run_batch(hart, instruction_budget) (00_scope.md R16). The event flag and the bytes other agents write are inputs that
may change between any two steps (10_state.md R69, 93_implementation_defined.md items 21 and 25); inside one runBatch they
are held as they stood at its start: DESIGN CHOICE (notes/assumptions/35.md). -/
def runBatch (budget : Nat) (s : State) : Host.Outcome State Fault Refusal :=
  match runSteps budget (s.startBatch budget) with
  | .next t => .next t.endBatch
  | .fault r => .fault r
  | .refused r => .refused r

/-- The extensions the host can turn on and off (00_scope.md R15). -/
inductive ExtFlag where
  | c
  | m
  | a
  | f
  | d
  deriving DecidableEq, Repr

/-- The configuration with one flag set. F_EN and D_EN can be true only with FP_PRESENT (10_state.md R64). -/
def setFlag (cfg : Config) (e : ExtFlag) (on : Bool) : Config :=
  match e with
  | .c => { cfg with cEn := on }
  | .m => { cfg with mEn := on }
  | .a => { cfg with aEn := on }
  | .f => { cfg with fEn := on && cfg.fpPresent }
  | .d => { cfg with dEn := on && cfg.fpPresent }

/-- Enable or disable an extension: between batches the tables are filled again and nothing else changes (R854); inside
one the call is refused (R865). -/
def setExtension (e : ExtFlag) (on : Bool) (s : State) : Host.Outcome State Fault Refusal :=
  match s.budget with
  | some _ => .refused .configInsideBatch
  | none =>
    .next { s with cfg := setFlag s.cfg e on, ftable := buildFull (setFlag s.cfg e on),
                   ctable := buildHalf (setFlag s.cfg e on) }

/-- The host or another agent sets or clears the event flag, at any time (R69). -/
def setEventFlag (on : Bool) (s : State) : State := { s with eventFlag := on }

/-- Another hart, a device or the loader writes bytes to memory: the reservation it touches is cleared (R572 b). -/
def externalWrite (s : State) {w : Nat} (a : BitVec w) (bytes : List Byte) : State :=
  ({ s with mem := storeBytes s.mem (byteAddrs a bytes.length) bytes }).breakResv (byteAddrs a bytes.length)

/-- The interrupt controller sets or clears pending bits (R816). -/
def setPending (s : State) (ip : Word) : State := { s with unit := { s.unit with ip := ip } }

/-- Interrupt codes in the order they are taken: MEI, MSI, MTI, SEI, SSI, STI (R816). -/
def interruptOrder : List Nat := [11, 3, 7, 9, 1, 5]

/-- An interrupt goes to S-mode when its mideleg bit is set. -/
def interruptToS (u : TrapUnit) (code : Nat) : Bool := u.mideleg.getLsbD code

/-- The current mode lets an interrupt in: a lower mode than its own does, its own mode when its enable bit is set
(PRESUMED, notes/assumptions/21.md). -/
def interruptOpen (u : TrapUnit) (code : Nat) : Bool :=
  if interruptToS u code then u.priv == .user || (u.priv == .supervisor && u.sie)
  else u.priv != .machine || u.mie

/-- The interrupt the standard unit takes now, if any: pending, enabled, open, first in the order, those to M-mode before
those to S-mode. -/
def pendingInterrupt (u : TrapUnit) : Option Nat :=
  let live := interruptOrder.filter fun c => u.ip.getLsbD c && u.ie.getLsbD c && interruptOpen u c
  match live.find? fun c => !interruptToS u c with
  | some c => some c
  | none => live.head?

/-- The cause word of an interrupt: the top bit and the code (R816). -/
def interruptCause (cfg : Config) (code : Nat) : Word := bitAt true (cfg.xlen.bits - 1) ||| BitVec.ofNat 64 code

/-- Where an interrupt goes: BASE, or BASE + 4 * code when xtvec.MODE is 1 (PRESUMED, notes/assumptions/21.md). -/
def interruptTarget (tvec : Word) (code : Nat) : Word :=
  if tvec.getLsbD 0 then tvecBase tvec + BitVec.ofNat 64 (4 * code) else tvecBase tvec

/-- The hart after the standard unit has taken an interrupt: the pc of the instruction not yet started is saved (R816,
R817). mtval or stval becomes 0, which the spec does not say (PRESUMED, notes/assumptions/21.md). -/
def enterInterrupt (s : State) (code : Nat) : State :=
  let toS := interruptToS s.unit code
  let target := interruptTarget (if toS then s.unit.stvec else s.unit.mtvec) code
  let enter := if toS then enterS else enterM
  { s with unit := enter s.unit (interruptCause s.cfg code) 0 s.pc
           pc := (target.setWidth s.w).setWidth 64 }

/-- Between two batches the external unit may take an interrupt; inside a batch none is taken (R816). Of an unspecified
unit nothing is known: the pc, its state, FS and the memory map are free values of a draw of their own, not the draw of the
step before (notes/assumptions/7.md and 13.md). -/
def takeInterrupt (s : State) : State :=
  match s.budget, s.cfg.unitKind with
  | some _, _ => s
  | none, .standard =>
    match pendingInterrupt s.unit with
    | none => s
    | some c => enterInterrupt s c
  | none, .unspecified =>
    let t : State := { s with draws := s.draws + 1 }
    { t.unitServes with pc := ((Config.trapPc t.draws).setWidth t.w).setWidth 64 }

end Sys2Proof.Machine
end

