-- ==== Sys2Proof/Safety.lean ====
section
/-! DEFINITION. What counts as a good state and a safe step, in the terms the statements use. -/

namespace Sys2Proof.Machine

/-- The hart's tables are those its configuration builds (70_reset_and_hazards.md R852). -/
def State.TablesBuilt (s : State) : Prop := s.ftable = buildFull s.cfg ∧ s.ctable = buildHalf s.cfg

/-- Memory is in its canonical form. -/
def State.MemCanonical (s : State) : Prop := s.mem.wf = true

/-- The stored slot of x0 holds 0: no write path changes it (10_state.md R44). -/
def State.ZeroHeld (s : State) : Prop := s.x[0] = 0

/-- A word fits in XLEN bits. -/
def FitsXLen (cfg : Config) (v : Word) : Prop := v.toNat < 2 ^ cfg.xlen.bits

/-- Every integer register, the pc and the reservation address fit in XLEN bits (10_state.md R41, R47). -/
def State.RegsFit (s : State) : Prop :=
  (∀ k : Fin 32, FitsXLen s.cfg s.x[k]) ∧ FitsXLen s.cfg s.pc ∧ FitsXLen s.cfg s.resvAddr

/-- The pc is aligned to IALIGN (10_state.md R49). -/
def State.PcAligned (s : State) : Prop := s.pc.toNat % s.cfg.instrAlign = 0

/-- The reserved block is aligned to RESV_GRANULE (46_atomic.md R571). -/
def State.ResvAligned (s : State) : Prop := s.resvAddr.toNat % s.cfg.resvGranule = 0

/-- A safe step: it answers a next state (60_exceptions.md R800: the block never stops). -/
def StepSafe (s : State) : Prop := ∃ t, step s = .next t

end Sys2Proof.Machine
end

