-- ==== Sys2Proof/Certificates/Slice0/Obligations.lean ====
section
/-! DEFINITION. The statements about the model, each a rule of the spec or a property of the whole machine, and the
vocabulary they are written in. The vocabulary restates the spec's primitives as plain mathematics on `Nat`, `Int` and
`Rat`, and does not call the operations the meanings are built from. -/

namespace Sys2Proof.Spec

open Sys2Proof.Machine

/-! ## Reading a state -/

/-- `u(x[i])`. -/
def xu (s : State) (i : Reg) : Int := (s.rdX s.w i).toNat

/-- `s(x[i])`. -/
def xs (s : State) (i : Reg) : Int := (s.rdX s.w i).toInt

/-- Bit k of x[i]. -/
def xbit (s : State) (i : Reg) (k : Nat) : Bool := (s.rdX s.w i).getLsbD k

/-- The low 32 bits of x[i] as an unsigned integer. -/
def xu32 (s : State) (i : Reg) : Int := xu s i % 2 ^ 32

/-- The low 32 bits of x[i] as a signed integer. -/
def xs32 (s : State) (i : Reg) : Int := (xu s i).bmod (2 ^ 32)

/-- An integer modulo 2^XLEN. -/
def wrap (s : State) (v : Int) : Int := v % 2 ^ s.w

/-- The address of the next sequential instruction (R48). -/
def seqPc (s : State) (len : Nat) : Int := wrap s (s.pc.toNat + len)

/-- The register a 3-bit field names (R186). -/
def reg3 (r : CReg) : Reg := BitVec.ofNat 5 (r.toNat + 8)

/-- Bit k of a sign-extended field of n bits. -/
def sextBit {n : Nat} (v : BitVec n) (k : Nat) : Bool := v.getLsbD (min k (n - 1))

/-- The address of byte k of an access at a (R101). -/
def byteAddr (s : State) (a : Int) (k : Nat) : Nat := (wrap s (a + k)).toNat

/-- The byte a data read sees: what memory holds, or any value from a device (R114). -/
def dataByte (s : State) (a : Nat) : Byte :=
  if s.verdict .read a = .device then Config.deviceByte s.draws a else s.mem.read a

/-- The little-endian value of n bytes at a (R21, R105). -/
def leValue (s : State) (a : Int) : Nat → Nat
  | 0 => 0
  | n + 1 => leValue s a n + 256 ^ n * (dataByte s (byteAddr s a n)).toNat

/-- The memory system fails no byte of the access (R103). -/
def Allowed (s : State) (k : Access) (a : Int) (n : Nat) : Prop := ∀ j < n, ∀ f, s.verdict k (byteAddr s a j) ≠ .fail f

/-- It fails some byte, and every byte it fails it fails with kind f. -/
def FailsWith (s : State) (k : Access) (a : Int) (n : Nat) (f : PortFault) : Prop :=
  (∃ j < n, s.verdict k (byteAddr s a j) = .fail f) ∧ ∀ j < n, ∀ g, s.verdict k (byteAddr s a j) = .fail g → g = f

/-- The instruction is well formed and its configuration has it: conditions (b), (c) and (d) of R179. -/
def Live (i : Instr) (s : State) : Prop := i.wf = true ∧ i.enabled s.cfg = true

/-- The alignment of instruction addresses in bytes (R49). -/
def align (s : State) : Int := if s.cfg.cEn then 2 else 4

/-! ## What may change -/

/-- No byte of memory changes. -/
def SameBytes (s t : State) : Prop := ∀ a, t.mem.read a = s.mem.read a

/-- Only rd and the pc change, and with rd = 0 no register. -/
def OnlyX (s t : State) (rd : Reg) : Prop :=
  (∀ r, r ≠ rd → t.rdX 64 r = s.rdX 64 r) ∧ (rd = 0 → t.x = s.x) ∧ SameBytes s t ∧ t = { s with x := t.x, pc := t.pc }

/-- The instruction completes, advances the pc by its length, writes an integer to rd modulo 2^XLEN and changes
nothing else. -/
def Sets (i : Instr) (s : State) (len : Nat) (rd : Reg) (v : Int) : Prop :=
  ∃ t, exec i s = .next t ∧ (t.pc.toNat : Int) = seqPc s len ∧ OnlyX s t rd ∧
    (rd ≠ 0 → ((t.rdX s.w rd).toNat : Int) = wrap s v)

/-- The same for a result given bit by bit. -/
def SetsBits (i : Instr) (s : State) (len : Nat) (rd : Reg) (b : Nat → Bool) : Prop :=
  ∃ t, exec i s = .next t ∧ (t.pc.toNat : Int) = seqPc s len ∧ OnlyX s t rd ∧
    (rd ≠ 0 → ∀ k < s.w, (t.rdX s.w rd).getLsbD k = b k)

/-- The code of a cause (R801). -/
def code : Cause → Nat
  | .instrMisaligned => 0
  | .instrAccessFault => 1
  | .illegalInstruction => 2
  | .breakpoint => 3
  | .loadMisaligned => 4
  | .loadAccessFault => 5
  | .storeMisaligned => 6
  | .storeAccessFault => 7
  | .ecallFromU => 8
  | .ecallFromS => 9
  | .ecallFromM => 11
  | .instrPageFault => 12
  | .loadPageFault => 13
  | .storePageFault => 15

/-- The trap goes to S-mode: delegated by medeleg (R812), and raised below M-mode (the model's, log 37). -/
def ToS (s : State) (c : Cause) : Prop := s.unit.priv ≠ .machine ∧ s.unit.medeleg.getLsbD (code c) = true

/-- What the standard unit does at trap entry (R812). -/
def StandardEntry (s t : State) (c : Cause) (tval : Word) : Prop :=
  (ToS s c →
    t.unit = { s.unit with sepc := s.pc, scause := BitVec.ofNat 64 (code c), stval := tval, spie := s.unit.sie
                           sie := false, spp := decide (s.unit.priv = .supervisor), priv := .supervisor } ∧
    (t.pc.toNat : Int) = wrap s (s.unit.stvec.toNat / 4 * 4)) ∧
  (¬ToS s c →
    t.unit = { s.unit with mepc := s.pc, mcause := BitVec.ofNat 64 (code c), mtval := tval, mpie := s.unit.mie
                           mie := false, mpp := s.unit.priv, priv := .machine } ∧
    (t.pc.toNat : Int) = wrap s (s.unit.mtvec.toNat / 4 * 4))

/-- A trap is taken at the instruction's pc: the call the block makes is recorded (log 16), the unit redirects, and no
register, flag, FS, reservation or byte of memory changes (R22, R811, R813; that the unit leaves FS is log 7 and 31). The
standard unit makes the entry of R812 (log 6, 37) and leaves the memory map (log 9). -/
def TrapTaken (s t : State) (c : Cause) (tval : Word) : Prop :=
  t = { s with pc := t.pc, unit := t.unit, map := t.map, trapCall := some ⟨c, tval, s.pc⟩ } ∧
    (s.cfg.unitKind = .standard → t.map = s.map ∧ StandardEntry s t c tval)

/-- The instruction traps. -/
def Traps (i : Instr) (s : State) (c : Cause) (tval : Word) : Prop :=
  ∃ t, exec i s = .next t ∧ TrapTaken s t c tval

/-- The instruction word or parcel, zero-extended (R802). -/
def rawBits : Enc → Word
  | .half h => h.setWidth 64
  | .full w => w.setWidth 64

/-- It raises IllegalInstruction with its own bits (R807). -/
def TrapsIllegal (i : Instr) (s : State) : Prop := Traps i s .illegalInstruction (rawBits (encode i))

/-- An address as the word a trap reports. -/
def addrWord (s : State) (a : Int) : Word := BitVec.ofInt 64 (wrap s a)
end Sys2Proof.Spec

/-! ## Encoding -/

open Sys2Proof Sys2Proof.Machine Sys2Proof.Spec

/-- Decoding the encoding of a well-formed instruction the configuration has gives it back, with every operand (R179). -/
def Obligations.DecodeOfEncode : Prop :=
  ∀ (cfg : Config) (i : Instr), i.wf = true → i.enabled cfg = true → decode cfg (encode i) = .ok i

/-- What decodes to an instruction is its encoding, so no two words decode to one instruction and no bit is ignored. -/
def Obligations.EncodeOfDecode : Prop :=
  ∀ (cfg : Config) (e : Enc) (i : Instr),
    (match e with
      | .half h => isFull h = false
      | .full w => isFull (w.extractLsb' 0 16) = true) →
    decode cfg e = .ok i → encode i = e ∧ i.wf = true ∧ i.enabled cfg = true

/-- Every encoding has the fixed bits of its row of the opcode table, at every operand: R179 (a). -/
def Obligations.EncodingHasRowBits : Prop :=
  ∀ i : Instr, (encode i).bits &&& i.row.mask = i.row.match_

/-- The bytes of a word or parcel, least significant first (R106). -/
def Sys2Proof.Spec.encBytes : Enc → List Byte
  | .half h => [h.extractLsb' 0 8, h.extractLsb' 8 8]
  | .full w => [w.extractLsb' 0 8, w.extractLsb' 8 8, w.extractLsb' 16 8, w.extractLsb' 24 8]

/-- An instruction decodes from its little-endian bytes, takes exactly its length, and leaves the rest (R106, R150). -/
def Obligations.DecodeBytesTakesLength : Prop :=
  ∀ (cfg : Config) (i : Instr) (rest : List Byte), i.wf = true → i.enabled cfg = true →
    decodeBytes cfg (encBytes (encode i) ++ rest) = .ok (i, rest)

/-- Words of the spec's own examples decode to the instructions they stand for: at least one of each file of spec/ that
holds rows of the opcode table (40 to 46, 48 and 49). A word of all ones and a parcel of zeros decode to none (R205). -/
def Obligations.ExampleWordsDecode : Prop :=
  decodeTableWord 32 0x003100B3 = some (.add 1 2 3) ∧
  decodeTableWord 32 0xFFFFFFFF = none ∧
  decodeTableWord 32 0x123452B7 = some (.lui 5 0x12345) ∧
  decodeTableWord 32 0x004280E7 = some (.jalr 1 5 4) ∧
  decodeTableWord 32 0x00412083 = some (.lw 1 2 4) ∧
  decodeTableWord 32 0x0330000F = some (.fence 0 3 3 0 0) ∧
  decodeTableWord 32 0x023100B3 = some (.mul 1 2 3) ∧
  decodeTableWord 32 0x1005A52F = some (.lrW 10 11 false false) ∧
  decodeTableWord 32 0x00052087 = some (.flw 1 10 0) ∧
  decodeTableWord 32 0x022081D3 = some (.faddD 3 1 2 0) ∧
  decodeTableWord 16 0x9002 = some .cEbreak ∧
  decodeTableWord 16 0x0000 = none

/-- The tables do not depend on the order in which the modules install their handlers, because no two modules install
into one slot (R852). -/
def Obligations.InstallOrderIrrelevant : Prop :=
  (∀ (cfg : Config) (l : List FullInstall) (id : BitVec 9), l.Perm installsFull →
    l.foldl (fun h j => if j.on cfg && j.pattern.covers id then j.handler else h) .illegal = slotFull cfg id) ∧
  (∀ (cfg : Config) (l : List HalfInstall) (id : BitVec 5), l.Perm installsHalf →
    l.foldl (fun h j => if j.on cfg && j.slot == id then j.handler else h) .illegal = slotHalf cfg id)


/-! ## The step -/

/-- What a step adds around the instruction: one unit of the budget is taken, the Trap call of the step before is
forgotten, and free values are drawn afresh. -/
def Sys2Proof.Spec.stepStart (s : State) : State :=
  { s with budget := s.budget.map (· - 1), trapCall := none, draws := s.draws + 1 }

/-- Byte k that the step fetches from the pc on: what memory holds, or any value from a device (R48, R51, R114). -/
def Sys2Proof.Spec.fetched (s : State) (k : Nat) : Byte :=
  if s.verdict .fetch (byteAddr s s.pc.toNat k) = .device then Config.fetchByte (s.draws + 1) (byteAddr s s.pc.toNat k)
  else s.mem.read (byteAddr s s.pc.toNat k)

/-- The bytes at the pc, in order. -/
def Sys2Proof.Spec.fetchBytes (s : State) : List Byte := (List.range 4).map (fetched s)

/-- When the bytes at an aligned pc can be fetched and decode to i, the step is exec of i, after what `stepStart` adds; the
record of the Trap call and the draws are the model's own (log 13, 16). -/
def Obligations.StepRunsDecoded : Prop :=
  ∀ (s : State) (i : Instr) (rest : List Byte), s.TablesBuilt → (s.pc.toNat : Int) % align s = 0 →
    decodeBytes s.cfg (fetchBytes s) = .ok (i, rest) →
    Allowed s .fetch s.pc.toNat (encode i).len →
    step s = exec i (stepStart s)

/-- A step always gives a next state: nothing inside the block aborts it (R800, R871). -/
def Obligations.StepNeverStops : Prop := ∀ s : State, ∃ t, step s = .next t

/-- The cause of a failed fetch (R805). -/
def Sys2Proof.Spec.fetchCause : PortFault → Cause
  | .access => .instrAccessFault
  | .page => .instrPageFault

/-- A misaligned pc traps before any fetch, with tval pc; a fetch that fails traps before decode, at the first parcel with
tval pc, and at the second, which is fetched when the low bits of the first are 11, with tval pc + 2 (R803, R804, R805,
R809). What the trap then does is `TrapTaken`: the block's part is R811, the standard unit's R812 (log 6), the record of the
call and the draw log 13 and 16. -/
def Obligations.FetchTraps : Prop :=
  ∀ s : State,
    ((s.pc.toNat : Int) % align s ≠ 0 → ∃ t, step s = .next t ∧ TrapTaken (stepStart s) t .instrMisaligned s.pc) ∧
    (∀ f, (s.pc.toNat : Int) % align s = 0 →
      (FailsWith s .fetch s.pc.toNat 2 f →
        ∃ t, step s = .next t ∧ TrapTaken (stepStart s) t (fetchCause f) (addrWord s s.pc.toNat)) ∧
      (Allowed s .fetch s.pc.toNat 2 → (fetched s 0).toNat % 4 = 3 → FailsWith s .fetch (s.pc.toNat + 2) 2 f →
        ∃ t, step s = .next t ∧ TrapTaken (stepStart s) t (fetchCause f) (addrWord s (s.pc.toNat + 2))))

/-! ## Invariants -/

/-- The tables are those of the configuration, memory is canonical, x0 holds 0, every register, the pc and the
reservation address fit in XLEN bits, and the reserved block is aligned. -/
def Sys2Proof.Spec.Inv (s : State) : Prop :=
  s.TablesBuilt ∧ s.MemCanonical ∧ s.ZeroHeld ∧ s.RegsFit ∧ s.ResvAligned

/-- Every step keeps the invariant, from every state that meets it. -/
def Obligations.StepKeepsInvariant : Prop := ∀ s t : State, Inv s → step s = .next t → Inv t

/-- With the standard unit every step leaves the pc aligned, a trap and a trap return included (R49; that a return aligns
the saved pc is the model's, log 22, and that a trap vector is a multiple of 4 the layout's, log 6). -/
def Obligations.StepKeepsPcAligned : Prop :=
  ∀ s t : State, s.cfg.unitKind = .standard → s.PcAligned → step s = .next t → t.PcAligned

/-- The values the spec gives at creation: every integer and FP register 0, pc RESET_PC, fflags and frm 0, no
reservation, no budget, M-mode with mstatus.MIE = 0, each table slot what the installers of the enabled modules leave
there. With a RESET_PC that fits in XLEN bits and is aligned the invariants hold (R851; that a unit of which nothing is known
starts in M-mode too is log 7). -/
def Obligations.CreationState : Prop :=
  ∀ (cfg : Config) (s : State), s = State.create cfg →
    (∀ (w : Nat) (i : Reg), s.rdX w i = 0) ∧ (∀ i : Reg, s.rdF i = 0) ∧ s.pc = cfg.resetPc ∧ s.fflags = 0 ∧ s.frm = 0 ∧
    s.resvValid = false ∧ s.budget = none ∧ s.unit.priv = .machine ∧ s.unit.mie = false ∧
    s.ftable.length = 16 ∧ (∀ row ∈ s.ftable, row.length = 32) ∧ s.ctable.length = 32 ∧
    (∀ id : BitVec 9, slotAt s.ftable id = slotFull cfg id) ∧
    (∀ id : BitVec 5, s.ctable.getD id.toNat .illegal = slotHalf cfg id) ∧
    (FitsXLen cfg cfg.resetPc → cfg.resetPc.toNat % cfg.instrAlign = 0 → Inv s ∧ s.PcAligned)

/-! ## Integer results -/

/-- Sums and upper immediates, modulo 2^XLEN: LUI, AUIPC, ADDI, ADD, SUB and their compressed forms. -/
def Obligations.SumResults : Prop :=
  ∀ s : State,
    (∀ rd imm, Sets (.lui rd imm) s 4 rd (imm.toInt * 2 ^ 12)) ∧
    (∀ rd imm, Sets (.auipc rd imm) s 4 rd (s.pc.toNat + imm.toInt * 2 ^ 12)) ∧
    (∀ rd rs1 imm, Sets (.addi rd rs1 imm) s 4 rd (xu s rs1 + imm.toInt)) ∧
    (∀ rd rs1 rs2, Sets (.add rd rs1 rs2) s 4 rd (xu s rs1 + xu s rs2)) ∧
    (∀ rd rs1 rs2, Sets (.sub rd rs1 rs2) s 4 rd (xu s rs1 - xu s rs2)) ∧
    (∀ rd imm, Live (.cAddi4spn rd imm) s → Sets (.cAddi4spn rd imm) s 2 (reg3 rd) (xu s 2 + 4 * imm.toNat)) ∧
    (∀ imm, Live (.cNop imm) s → Sets (.cNop imm) s 2 0 0) ∧
    (∀ rd imm, Live (.cAddi rd imm) s → Sets (.cAddi rd imm) s 2 rd (xu s rd + imm.toInt)) ∧
    (∀ rd imm, Live (.cLi rd imm) s → Sets (.cLi rd imm) s 2 rd imm.toInt) ∧
    (∀ imm, Live (.cAddi16sp imm) s → Sets (.cAddi16sp imm) s 2 2 (xu s 2 + 16 * imm.toInt)) ∧
    (∀ rd imm, Live (.cLui rd imm) s → Sets (.cLui rd imm) s 2 rd (imm.toInt * 2 ^ 12)) ∧
    (∀ rd rs2, Live (.cMv rd rs2) s → Sets (.cMv rd rs2) s 2 rd (xu s rs2)) ∧
    (∀ rd rs2, Live (.cAdd rd rs2) s → Sets (.cAdd rd rs2) s 2 rd (xu s rd + xu s rs2)) ∧
    (∀ rd rs2, Live (.cSub rd rs2) s → Sets (.cSub rd rs2) s 2 (reg3 rd) (xu s (reg3 rd) - xu s (reg3 rs2)))

/-- The comparisons write 1 or 0, signed or unsigned: SLTI, SLTIU, SLT, SLTU. The bitwise instructions, bit by bit: XORI,
ORI, ANDI, XOR, OR, AND and their compressed forms. -/
def Obligations.ComparisonAndBitwiseResults : Prop :=
  ∀ s : State,
    (∀ rd rs1 imm, Sets (.slti rd rs1 imm) s 4 rd (if xs s rs1 < imm.toInt then 1 else 0)) ∧
    (∀ rd rs1 imm, Sets (.sltiu rd rs1 imm) s 4 rd (if xu s rs1 < wrap s imm.toInt then 1 else 0)) ∧
    (∀ rd rs1 rs2, Sets (.slt rd rs1 rs2) s 4 rd (if xs s rs1 < xs s rs2 then 1 else 0)) ∧
    (∀ rd rs1 rs2, Sets (.sltu rd rs1 rs2) s 4 rd (if xu s rs1 < xu s rs2 then 1 else 0)) ∧
    (∀ rd rs1 imm, SetsBits (.xori rd rs1 imm) s 4 rd fun k => xbit s rs1 k != sextBit imm k) ∧
    (∀ rd rs1 imm, SetsBits (.ori rd rs1 imm) s 4 rd fun k => xbit s rs1 k || sextBit imm k) ∧
    (∀ rd rs1 imm, SetsBits (.andi rd rs1 imm) s 4 rd fun k => xbit s rs1 k && sextBit imm k) ∧
    (∀ rd rs1 rs2, SetsBits (.xor rd rs1 rs2) s 4 rd fun k => xbit s rs1 k != xbit s rs2 k) ∧
    (∀ rd rs1 rs2, SetsBits (.or rd rs1 rs2) s 4 rd fun k => xbit s rs1 k || xbit s rs2 k) ∧
    (∀ rd rs1 rs2, SetsBits (.and rd rs1 rs2) s 4 rd fun k => xbit s rs1 k && xbit s rs2 k) ∧
    (∀ rd imm, Live (.cAndi rd imm) s →
      SetsBits (.cAndi rd imm) s 2 (reg3 rd) fun k => xbit s (reg3 rd) k && sextBit imm k) ∧
    (∀ rd rs2, Live (.cXor rd rs2) s →
      SetsBits (.cXor rd rs2) s 2 (reg3 rd) fun k => xbit s (reg3 rd) k != xbit s (reg3 rs2) k) ∧
    (∀ rd rs2, Live (.cOr rd rs2) s →
      SetsBits (.cOr rd rs2) s 2 (reg3 rd) fun k => xbit s (reg3 rd) k || xbit s (reg3 rs2) k) ∧
    (∀ rd rs2, Live (.cAnd rd rs2) s →
      SetsBits (.cAnd rd rs2) s 2 (reg3 rd) fun k => xbit s (reg3 rd) k && xbit s (reg3 rs2) k)

/-- Shifts as multiplication and flooring division by 2^sh: by the shamt field, or by x[rs2] modulo XLEN (R301). -/
def Obligations.ShiftResults : Prop :=
  ∀ s : State,
    (∀ rd rs1 sh, Live (.slli rd rs1 sh) s → Sets (.slli rd rs1 sh) s 4 rd (xu s rs1 * 2 ^ sh.toNat)) ∧
    (∀ rd rs1 sh, Live (.srli rd rs1 sh) s → Sets (.srli rd rs1 sh) s 4 rd (xu s rs1 / 2 ^ sh.toNat)) ∧
    (∀ rd rs1 sh, Live (.srai rd rs1 sh) s → Sets (.srai rd rs1 sh) s 4 rd (xs s rs1 / 2 ^ sh.toNat)) ∧
    (∀ rd sh, Live (.cSlli rd sh) s → Sets (.cSlli rd sh) s 2 rd (xu s rd * 2 ^ sh.toNat)) ∧
    (∀ rd sh, Live (.cSrli rd sh) s → Sets (.cSrli rd sh) s 2 (reg3 rd) (xu s (reg3 rd) / 2 ^ sh.toNat)) ∧
    (∀ rd sh, Live (.cSrai rd sh) s → Sets (.cSrai rd sh) s 2 (reg3 rd) (xs s (reg3 rd) / 2 ^ sh.toNat)) ∧
    (∀ rd rs1 rs2, Sets (.sll rd rs1 rs2) s 4 rd (xu s rs1 * 2 ^ (xu s rs2 % s.w).toNat)) ∧
    (∀ rd rs1 rs2, Sets (.srl rd rs1 rs2) s 4 rd (xu s rs1 / 2 ^ (xu s rs2 % s.w).toNat)) ∧
    (∀ rd rs1 rs2, Sets (.sra rd rs1 rs2) s 4 rd (xs s rs1 / 2 ^ (xu s rs2 % s.w).toNat))

/-- A 32-bit result, sign-extended (R302). -/
def Sys2Proof.Spec.sext32Int (v : Int) : Int := v.bmod (2 ^ 32)

/-- The W forms work on the low 32 bits and sign-extend: ADDIW, SLLIW, SRLIW, SRAIW, ADDW, SUBW, SLLW, SRLW, SRAW,
C.ADDIW, C.ADDW, C.SUBW (R302). -/
def Obligations.WordFormResults : Prop :=
  ∀ s : State, s.cfg.xlen = .rv64 →
    (∀ rd rs1 imm, Sets (.addiw rd rs1 imm) s 4 rd (sext32Int (xu s rs1 + imm.toInt))) ∧
    (∀ rd rs1 sh, Sets (.slliw rd rs1 sh) s 4 rd (sext32Int (xu32 s rs1 * 2 ^ sh.toNat))) ∧
    (∀ rd rs1 sh, Sets (.srliw rd rs1 sh) s 4 rd (sext32Int (xu32 s rs1 / 2 ^ sh.toNat))) ∧
    (∀ rd rs1 sh, Sets (.sraiw rd rs1 sh) s 4 rd (xs32 s rs1 / 2 ^ sh.toNat)) ∧
    (∀ rd rs1 rs2, Sets (.addw rd rs1 rs2) s 4 rd (sext32Int (xu s rs1 + xu s rs2))) ∧
    (∀ rd rs1 rs2, Sets (.subw rd rs1 rs2) s 4 rd (sext32Int (xu s rs1 - xu s rs2))) ∧
    (∀ rd rs1 rs2, Sets (.sllw rd rs1 rs2) s 4 rd (sext32Int (xu32 s rs1 * 2 ^ (xu s rs2 % 32).toNat))) ∧
    (∀ rd rs1 rs2, Sets (.srlw rd rs1 rs2) s 4 rd (sext32Int (xu32 s rs1 / 2 ^ (xu s rs2 % 32).toNat))) ∧
    (∀ rd rs1 rs2, Sets (.sraw rd rs1 rs2) s 4 rd (xs32 s rs1 / 2 ^ (xu s rs2 % 32).toNat)) ∧
    (s.cfg.cEn = true →
      (∀ rd imm, rd ≠ 0 → Sets (.cAddiw rd imm) s 2 rd (sext32Int (xu s rd + imm.toInt))) ∧
      (∀ rd rs2, Sets (.cAddw rd rs2) s 2 (reg3 rd) (sext32Int (xu s (reg3 rd) + xu s (reg3 rs2)))) ∧
      (∀ rd rs2, Sets (.cSubw rd rs2) s 2 (reg3 rd) (sext32Int (xu s (reg3 rd) - xu s (reg3 rs2)))))

/-- Low and high parts of products: MUL, MULH, MULHSU, MULHU, MULW. -/
def Obligations.ProductResults : Prop :=
  ∀ (s : State) (rd rs1 rs2 : Reg), s.cfg.mEn = true →
    Sets (.mul rd rs1 rs2) s 4 rd (xs s rs1 * xs s rs2) ∧
    Sets (.mulh rd rs1 rs2) s 4 rd (xs s rs1 * xs s rs2 / 2 ^ s.w) ∧
    Sets (.mulhsu rd rs1 rs2) s 4 rd (xs s rs1 * xu s rs2 / 2 ^ s.w) ∧
    Sets (.mulhu rd rs1 rs2) s 4 rd (xu s rs1 * xu s rs2 / 2 ^ s.w) ∧
    (s.cfg.xlen = .rv64 → Sets (.mulw rd rs1 rs2) s 4 rd (sext32Int (xu s rs1 * xu s rs2)))

/-- q and r are quotient and remainder of a by b, rounded toward zero, the remainder with the sign of a. -/
def Sys2Proof.Spec.QuotRem (a b q r : Int) : Prop := a = b * q + r ∧ r.natAbs < b.natAbs ∧ (r = 0 ∨ r.sign = a.sign)

/-- Signed division on operands of l bits, with the corner cases of R531. -/
def Sys2Proof.Spec.SignedDiv (l : Nat) (a b q r : Int) : Prop :=
  (b = 0 → q = -1 ∧ r = a) ∧ (a = -2 ^ (l - 1) → b = -1 → q = a ∧ r = 0) ∧
    (b ≠ 0 → ¬(a = -2 ^ (l - 1) ∧ b = -1) → QuotRem a b q r)

/-- Unsigned division on operands of l bits, with the corner case of R531. -/
def Sys2Proof.Spec.UnsignedDiv (l : Nat) (a b q r : Int) : Prop :=
  (b = 0 → q = 2 ^ l - 1 ∧ r = a) ∧ (b ≠ 0 → QuotRem a b q r)

/-- Every divide and remainder gives a result, the corner cases included, and never traps: DIV, REM, DIVU, REMU and the
W forms, whose 32-bit result is sign-extended (R531). -/
def Obligations.DivisionResults : Prop :=
  ∀ (s : State) (rd rs1 rs2 : Reg), s.cfg.mEn = true →
    (∃ q r, SignedDiv s.w (xs s rs1) (xs s rs2) q r ∧
      Sets (.div rd rs1 rs2) s 4 rd q ∧ Sets (.rem rd rs1 rs2) s 4 rd r) ∧
    (∃ q r, UnsignedDiv s.w (xu s rs1) (xu s rs2) q r ∧
      Sets (.divu rd rs1 rs2) s 4 rd q ∧ Sets (.remu rd rs1 rs2) s 4 rd r) ∧
    (s.cfg.xlen = .rv64 →
      (∃ q r, SignedDiv 32 (xs32 s rs1) (xs32 s rs2) q r ∧
        Sets (.divw rd rs1 rs2) s 4 rd (sext32Int q) ∧ Sets (.remw rd rs1 rs2) s 4 rd (sext32Int r)) ∧
      (∃ q r, UnsignedDiv 32 (xu32 s rs1) (xu32 s rs2) q r ∧
        Sets (.divuw rd rs1 rs2) s 4 rd (sext32Int q) ∧ Sets (.remuw rd rs1 rs2) s 4 rd (sext32Int r)))

/-! ## Control transfer -/

/-- A transfer of control: the instruction, the register the link goes to, the target and the length. -/
structure Sys2Proof.Spec.Jump where
  instr  : Instr
  rd     : Reg
  target : Int
  len    : Nat

/-- x[rs1] + imm with bit 0 cleared. -/
def Sys2Proof.Spec.evenTarget (s : State) (rs1 : Reg) (imm : Int) : Int := wrap s (xu s rs1 + imm) / 2 * 2

/-- Every jump in a state: JAL, JALR, C.J, C.JAL, C.JR, C.JALR. -/
inductive Sys2Proof.Spec.IsJump (s : State) : Jump → Prop where
  | jal (rd : Reg) (off : BitVec 20) : IsJump s ⟨.jal rd off, rd, wrap s (s.pc.toNat + 2 * off.toInt), 4⟩
  | jalr (rd rs1 : Reg) (imm : BitVec 12) : IsJump s ⟨.jalr rd rs1 imm, rd, evenTarget s rs1 imm.toInt, 4⟩
  | cJ (off : BitVec 11) : IsJump s ⟨.cJ off, 0, wrap s (s.pc.toNat + 2 * off.toInt), 2⟩
  | cJal (off : BitVec 11) : IsJump s ⟨.cJal off, 1, wrap s (s.pc.toNat + 2 * off.toInt), 2⟩
  | cJr (rs1 : Reg) : IsJump s ⟨.cJr rs1, 0, evenTarget s rs1 0, 2⟩
  | cJalr (rs1 : Reg) : IsJump s ⟨.cJalr rs1, 1, evenTarget s rs1 0, 2⟩

/-- A jump to an aligned target writes the address after itself to its link register and goes there, and nothing else
changes; x[rs1] is read before the link is written (R361, R362, R363). -/
def Obligations.JumpResults : Prop :=
  ∀ (s : State) (j : Jump), IsJump s j → Live j.instr s → j.target % align s = 0 →
    ∃ t, exec j.instr s = .next t ∧ (t.pc.toNat : Int) = j.target ∧ OnlyX s t j.rd ∧
      (j.rd ≠ 0 → ((t.rdX s.w j.rd).toNat : Int) = seqPc s j.len)

/-- A branch: its instruction, condition, target and length. -/
structure Sys2Proof.Spec.Branch where
  instr  : Instr
  taken  : Prop
  target : Int
  len    : Nat

/-- Every branch in a state: BEQ, BNE, BLT, BGE, BLTU, BGEU, C.BEQZ, C.BNEZ. -/
inductive Sys2Proof.Spec.IsBranch (s : State) : Branch → Prop where
  | beq (rs1 rs2 : Reg) (off : BitVec 12) :
      IsBranch s ⟨.beq rs1 rs2 off, xu s rs1 = xu s rs2, wrap s (s.pc.toNat + 2 * off.toInt), 4⟩
  | bne (rs1 rs2 : Reg) (off : BitVec 12) :
      IsBranch s ⟨.bne rs1 rs2 off, xu s rs1 ≠ xu s rs2, wrap s (s.pc.toNat + 2 * off.toInt), 4⟩
  | blt (rs1 rs2 : Reg) (off : BitVec 12) :
      IsBranch s ⟨.blt rs1 rs2 off, xs s rs1 < xs s rs2, wrap s (s.pc.toNat + 2 * off.toInt), 4⟩
  | bge (rs1 rs2 : Reg) (off : BitVec 12) :
      IsBranch s ⟨.bge rs1 rs2 off, xs s rs1 ≥ xs s rs2, wrap s (s.pc.toNat + 2 * off.toInt), 4⟩
  | bltu (rs1 rs2 : Reg) (off : BitVec 12) :
      IsBranch s ⟨.bltu rs1 rs2 off, xu s rs1 < xu s rs2, wrap s (s.pc.toNat + 2 * off.toInt), 4⟩
  | bgeu (rs1 rs2 : Reg) (off : BitVec 12) :
      IsBranch s ⟨.bgeu rs1 rs2 off, xu s rs1 ≥ xu s rs2, wrap s (s.pc.toNat + 2 * off.toInt), 4⟩
  | cBeqz (rs1 : CReg) (off : BitVec 8) :
      IsBranch s ⟨.cBeqz rs1 off, xu s (reg3 rs1) = 0, wrap s (s.pc.toNat + 2 * off.toInt), 2⟩
  | cBnez (rs1 : CReg) (off : BitVec 8) :
      IsBranch s ⟨.cBnez rs1 off, xu s (reg3 rs1) ≠ 0, wrap s (s.pc.toNat + 2 * off.toInt), 2⟩

/-- A branch goes to its target when its condition holds, to the next instruction otherwise, whatever the target then is,
and changes nothing but the pc (R361, R364 to R369, R489, R490). -/
def Obligations.BranchResults : Prop :=
  ∀ (s : State) (b : Branch), IsBranch s b → Live b.instr s →
    (b.taken → b.target % align s = 0 → ∃ t, exec b.instr s = .next t ∧ (t.pc.toNat : Int) = b.target ∧ OnlyX s t 0) ∧
    (¬b.taken → ∃ t, exec b.instr s = .next t ∧ (t.pc.toNat : Int) = seqPc s b.len ∧ OnlyX s t 0)

/-- A jump, or a branch whose condition holds, to a misaligned target traps with the target as tval; no link is written
and the trap's pc is its own address. From an even pc no compressed transfer has such a target (R361, R461). -/
def Obligations.MisalignedTargetTraps : Prop :=
  ∀ s : State,
    (∀ j : Jump, IsJump s j → Live j.instr s →
      (j.target % align s ≠ 0 → Traps j.instr s .instrMisaligned (addrWord s j.target)) ∧
      (j.len = 2 → s.pc.toNat % 2 = 0 → j.target % align s = 0)) ∧
    (∀ b : Branch, IsBranch s b → Live b.instr s →
      (b.taken → b.target % align s ≠ 0 → Traps b.instr s .instrMisaligned (addrWord s b.target)) ∧
      (b.len = 2 → s.pc.toNat % 2 = 0 → b.target % align s = 0))


/-! ## Loads and stores -/

/-- An access of a load or store: n bytes at x[base] + off, by an instruction of the given length. -/
structure Sys2Proof.Spec.MemOp where
  instr : Instr
  base  : Reg
  off   : Int
  n     : Nat
  len   : Nat

/-- Its effective address, modulo 2^XLEN (R390). -/
def Sys2Proof.Spec.MemOp.addr (s : State) (a : Spec.MemOp) : Int := wrap s (xu s a.base + a.off)

/-- Every integer load, with its destination and whether it sign-extends: LB, LH, LW, LD, LBU, LHU, LWU, C.LW, C.LD,
C.LWSP, C.LDSP. -/
inductive Sys2Proof.Spec.IsLoad : Spec.MemOp → Reg → Bool → Prop where
  | lb (rd rs1 : Reg) (imm : BitVec 12) : IsLoad ⟨.lb rd rs1 imm, rs1, imm.toInt, 1, 4⟩ rd true
  | lh (rd rs1 : Reg) (imm : BitVec 12) : IsLoad ⟨.lh rd rs1 imm, rs1, imm.toInt, 2, 4⟩ rd true
  | lw (rd rs1 : Reg) (imm : BitVec 12) : IsLoad ⟨.lw rd rs1 imm, rs1, imm.toInt, 4, 4⟩ rd true
  | ld (rd rs1 : Reg) (imm : BitVec 12) : IsLoad ⟨.ld rd rs1 imm, rs1, imm.toInt, 8, 4⟩ rd true
  | lbu (rd rs1 : Reg) (imm : BitVec 12) : IsLoad ⟨.lbu rd rs1 imm, rs1, imm.toInt, 1, 4⟩ rd false
  | lhu (rd rs1 : Reg) (imm : BitVec 12) : IsLoad ⟨.lhu rd rs1 imm, rs1, imm.toInt, 2, 4⟩ rd false
  | lwu (rd rs1 : Reg) (imm : BitVec 12) : IsLoad ⟨.lwu rd rs1 imm, rs1, imm.toInt, 4, 4⟩ rd false
  | cLw (rd rs1 : CReg) (u : BitVec 5) : IsLoad ⟨.cLw rd rs1 u, reg3 rs1, 4 * u.toNat, 4, 2⟩ (reg3 rd) true
  | cLd (rd rs1 : CReg) (u : BitVec 5) : IsLoad ⟨.cLd rd rs1 u, reg3 rs1, 8 * u.toNat, 8, 2⟩ (reg3 rd) true
  | cLwsp (rd : Reg) (u : BitVec 6) : IsLoad ⟨.cLwsp rd u, 2, 4 * u.toNat, 4, 2⟩ rd true
  | cLdsp (rd : Reg) (u : BitVec 6) : IsLoad ⟨.cLdsp rd u, 2, 8 * u.toNat, 8, 2⟩ rd true

/-- Every FP load, with its destination: FLW, C.FLW, C.FLWSP (4 bytes), FLD, C.FLD, C.FLDSP (8 bytes). -/
inductive Sys2Proof.Spec.IsFpLoad : Spec.MemOp → Reg → Prop where
  | flw (rd rs1 : Reg) (imm : BitVec 12) : IsFpLoad ⟨.flw rd rs1 imm, rs1, imm.toInt, 4, 4⟩ rd
  | fld (rd rs1 : Reg) (imm : BitVec 12) : IsFpLoad ⟨.fld rd rs1 imm, rs1, imm.toInt, 8, 4⟩ rd
  | cFlw (rd rs1 : CReg) (u : BitVec 5) : IsFpLoad ⟨.cFlw rd rs1 u, reg3 rs1, 4 * u.toNat, 4, 2⟩ (reg3 rd)
  | cFld (rd rs1 : CReg) (u : BitVec 5) : IsFpLoad ⟨.cFld rd rs1 u, reg3 rs1, 8 * u.toNat, 8, 2⟩ (reg3 rd)
  | cFlwsp (rd : Reg) (u : BitVec 6) : IsFpLoad ⟨.cFlwsp rd u, 2, 4 * u.toNat, 4, 2⟩ rd
  | cFldsp (rd : Reg) (u : BitVec 6) : IsFpLoad ⟨.cFldsp rd u, 2, 8 * u.toNat, 8, 2⟩ rd

/-- Every store in a state, with the value whose low n bytes it writes: SB, SH, SW, SD, C.SW, C.SD, C.SWSP, C.SDSP from
x[rs2], FSW, FSD, C.FSW, C.FSD, C.FSWSP, C.FSDSP from the raw bits of f[rs2] (R638). -/
inductive Sys2Proof.Spec.IsStore (s : State) : Spec.MemOp → Int → Prop where
  | sb (rs1 rs2 : Reg) (imm : BitVec 12) : IsStore s ⟨.sb rs1 rs2 imm, rs1, imm.toInt, 1, 4⟩ (xu s rs2)
  | sh (rs1 rs2 : Reg) (imm : BitVec 12) : IsStore s ⟨.sh rs1 rs2 imm, rs1, imm.toInt, 2, 4⟩ (xu s rs2)
  | sw (rs1 rs2 : Reg) (imm : BitVec 12) : IsStore s ⟨.sw rs1 rs2 imm, rs1, imm.toInt, 4, 4⟩ (xu s rs2)
  | sd (rs1 rs2 : Reg) (imm : BitVec 12) : IsStore s ⟨.sd rs1 rs2 imm, rs1, imm.toInt, 8, 4⟩ (xu s rs2)
  | cSw (rs1 rs2 : CReg) (u : BitVec 5) :
      IsStore s ⟨.cSw rs1 rs2 u, reg3 rs1, 4 * u.toNat, 4, 2⟩ (xu s (reg3 rs2))
  | cSd (rs1 rs2 : CReg) (u : BitVec 5) :
      IsStore s ⟨.cSd rs1 rs2 u, reg3 rs1, 8 * u.toNat, 8, 2⟩ (xu s (reg3 rs2))
  | cSwsp (rs2 : Reg) (u : BitVec 6) : IsStore s ⟨.cSwsp rs2 u, 2, 4 * u.toNat, 4, 2⟩ (xu s rs2)
  | cSdsp (rs2 : Reg) (u : BitVec 6) : IsStore s ⟨.cSdsp rs2 u, 2, 8 * u.toNat, 8, 2⟩ (xu s rs2)
  | fsw (rs1 rs2 : Reg) (imm : BitVec 12) : IsStore s ⟨.fsw rs1 rs2 imm, rs1, imm.toInt, 4, 4⟩ (s.rdF rs2).toNat
  | fsd (rs1 rs2 : Reg) (imm : BitVec 12) : IsStore s ⟨.fsd rs1 rs2 imm, rs1, imm.toInt, 8, 4⟩ (s.rdF rs2).toNat
  | cFsw (rs1 rs2 : CReg) (u : BitVec 5) :
      IsStore s ⟨.cFsw rs1 rs2 u, reg3 rs1, 4 * u.toNat, 4, 2⟩ (s.rdF (reg3 rs2)).toNat
  | cFsd (rs1 rs2 : CReg) (u : BitVec 5) :
      IsStore s ⟨.cFsd rs1 rs2 u, reg3 rs1, 8 * u.toNat, 8, 2⟩ (s.rdF (reg3 rs2)).toNat
  | cFswsp (rs2 : Reg) (u : BitVec 6) : IsStore s ⟨.cFswsp rs2 u, 2, 4 * u.toNat, 4, 2⟩ (s.rdF rs2).toNat
  | cFsdsp (rs2 : Reg) (u : BitVec 6) : IsStore s ⟨.cFsdsp rs2 u, 2, 8 * u.toNat, 8, 2⟩ (s.rdF rs2).toNat

/-- The alignment check lets the access through: aligned, or MISALIGNED_LS is Emulate (R391). -/
def Sys2Proof.Spec.AlignedOrEmulated (s : State) (a : Spec.MemOp) : Prop :=
  a.addr s % a.n = 0 ∨ s.cfg.misaligned = .emulate

/-- An integer load gives rd the little-endian bytes at its address, sign- or zero-extended, and changes nothing else; an FP
load writes its bytes to f[rd] without interpretation, a single NaN-boxed, and sets FS Dirty (R391, R392, R394 to R400,
R638). -/
def Obligations.LoadResults : Prop :=
  ∀ (s : State) (a : Spec.MemOp), Live a.instr s → AlignedOrEmulated s a → Allowed s .read (a.addr s) a.n →
    (∀ rd signed, IsLoad a rd signed →
      Sets a.instr s a.len rd
        (if signed then ((leValue s (a.addr s) a.n : Nat) : Int).bmod (256 ^ a.n) else (leValue s (a.addr s) a.n : Nat))) ∧
    (∀ rd, IsFpLoad a rd →
      ∃ t, exec a.instr s = .next t ∧ (t.pc.toNat : Int) = seqPc s a.len ∧
        (t.rdF rd).toNat = (if a.n = 4 then 0xFFFFFFFF * 2 ^ 32 else 0) + leValue s (a.addr s) a.n ∧
        (∀ r, r ≠ rd → t.rdF r = s.rdF r) ∧ SameBytes s t ∧ t = { s with f := t.f, fs := .dirty, pc := t.pc })

/-- The n bytes at a touch the reserved block (R572 b). -/
def Sys2Proof.Spec.Touches (s : State) (a : Int) (n : Nat) : Prop :=
  ∃ j < n, s.resvAddr.toNat ≤ byteAddr s a j ∧ byteAddr s a j < s.resvAddr.toNat + s.cfg.resvGranule

/-- Memory after a write of the low n bytes of v at a: each byte that is RAM holds its byte of v, and every byte outside
a .. a + n - 1 reads as before. -/
def Sys2Proof.Spec.Wrote (s t : State) (a : Int) (n : Nat) (v : Int) : Prop :=
  (∀ k < n, s.verdict .write (byteAddr s a k) = .ram →
    ((t.mem.read (byteAddr s a k)).toNat : Int) = v / 256 ^ k % 256) ∧
  (∀ b, (∀ k < n, b ≠ byteAddr s a k) → t.mem.read b = s.mem.read b)

/-- A store writes the low n bytes of its source at its address, least significant first, leaves every other byte, clears
the reservation exactly when it touches the reserved block, and changes nothing else (R391, R393, R401 to R404). -/
def Obligations.StoreResults : Prop :=
  ∀ (s : State) (a : Spec.MemOp) (v : Int), s.MemCanonical → IsStore s a v → Live a.instr s →
    AlignedOrEmulated s a → Allowed s .write (a.addr s) a.n →
    ∃ t, exec a.instr s = .next t ∧ (t.pc.toNat : Int) = seqPc s a.len ∧ Wrote s t (a.addr s) a.n v ∧
      (t.resvValid = true ↔ s.resvValid = true ∧ ¬Touches s (a.addr s) a.n) ∧
      t = { s with mem := t.mem, resvValid := t.resvValid, pc := t.pc }

/-- The causes of a failed load and of a failed store (R805). -/
def Sys2Proof.Spec.loadFault : PortFault → Cause
  | .access => .loadAccessFault
  | .page => .loadPageFault

def Sys2Proof.Spec.storeFault : PortFault → Cause
  | .access => .storeAccessFault
  | .page => .storePageFault

/-- A load or store whose address the alignment check refuses, or whose bytes the memory system fails, traps with its
address; it writes no register and no byte, and alignment comes first (R391, R805, R809). -/
def Obligations.MemoryAccessTraps : Prop :=
  ∀ (s : State) (a : Spec.MemOp), Live a.instr s →
    (((∃ rd signed, IsLoad a rd signed) ∨ ∃ rd, IsFpLoad a rd) →
      (¬AlignedOrEmulated s a → Traps a.instr s .loadMisaligned (addrWord s (a.addr s))) ∧
      (∀ f, AlignedOrEmulated s a → FailsWith s .read (a.addr s) a.n f →
        Traps a.instr s (loadFault f) (addrWord s (a.addr s)))) ∧
    ((∃ v, IsStore s a v) →
      (¬AlignedOrEmulated s a → Traps a.instr s .storeMisaligned (addrWord s (a.addr s))) ∧
      (∀ f, AlignedOrEmulated s a → FailsWith s .write (a.addr s) a.n f →
        Traps a.instr s (storeFault f) (addrWord s (a.addr s))))

/-! ## Atomics -/

/-- The block of an address (R571). -/
def Sys2Proof.Spec.blockOf (s : State) (a : Int) : Int := a - a % s.cfg.resvGranule

/-- An LR of n bytes: LR.W, LR.D. -/
inductive Sys2Proof.Spec.IsLr : Instr → Reg → Reg → Nat → Prop where
  | w (rd rs1 : Reg) (aq rl : Bool) : IsLr (.lrW rd rs1 aq rl) rd rs1 4
  | d (rd rs1 : Reg) (aq rl : Bool) : IsLr (.lrD rd rs1 aq rl) rd rs1 8

/-- An SC of n bytes: SC.W, SC.D. -/
inductive Sys2Proof.Spec.IsSc : Instr → Reg → Reg → Reg → Nat → Prop where
  | w (rd rs1 rs2 : Reg) (aq rl : Bool) : IsSc (.scW rd rs1 rs2 aq rl) rd rs1 rs2 4
  | d (rd rs1 rs2 : Reg) (aq rl : Bool) : IsSc (.scD rd rs1 rs2 aq rl) rd rs1 rs2 8

/-- LR reads its bytes sign-extended into rd, reserves the aligned block of its address, replacing any earlier
reservation, and changes nothing else; with rd = 0 it still reserves (R571, R576, R587). -/
def Obligations.LoadReservedResults : Prop :=
  ∀ (s : State) (i : Instr) (rd rs1 : Reg) (n : Nat), IsLr i rd rs1 n → Live i s → xu s rs1 % n = 0 →
    Allowed s .read (xu s rs1) n →
    ∃ t, exec i s = .next t ∧ (t.pc.toNat : Int) = seqPc s 4 ∧
      (rd ≠ 0 → ((t.rdX s.w rd).toNat : Int) = wrap s (((leValue s (xu s rs1) n : Nat) : Int).bmod (256 ^ n))) ∧
      (∀ r, r ≠ rd → t.rdX 64 r = s.rdX 64 r) ∧ (rd = 0 → t.x = s.x) ∧ SameBytes s t ∧
      t.resvValid = true ∧ (t.resvAddr.toNat : Int) = blockOf s (xu s rs1) ∧
      t = { s with x := t.x, pc := t.pc, resvValid := t.resvValid, resvAddr := t.resvAddr }

/-- The SC matches the reservation (R571). -/
def Sys2Proof.Spec.Matches (s : State) (a : Int) : Prop :=
  s.resvValid = true ∧ blockOf s a = s.resvAddr.toNat

/-- A matching SC, where no failure is drawn, writes the low n bytes of x[rs2] and gives rd 0, leaving every other byte. An SC
that does not match, or that a draw makes fail, accesses no memory, so raises no access fault, and gives rd 1. Both drop
the reservation (R572, R573, R577, R588). -/
def Obligations.StoreConditionalResults : Prop :=
  ∀ (s : State) (i : Instr) (rd rs1 rs2 : Reg) (n : Nat), IsSc i rd rs1 rs2 n → Live i s → xu s rs1 % n = 0 →
    (s.MemCanonical → Matches s (xu s rs1) → (s.cfg.scMayFail = true → Config.scFails s.draws = false) →
      Allowed s .write (xu s rs1) n →
      ∃ t, exec i s = .next t ∧ (t.pc.toNat : Int) = seqPc s 4 ∧ (rd ≠ 0 → (t.rdX s.w rd).toNat = 0) ∧
        (∀ r, r ≠ rd → t.rdX 64 r = s.rdX 64 r) ∧ (rd = 0 → t.x = s.x) ∧ Wrote s t (xu s rs1) n (xu s rs2) ∧
        t.resvValid = false ∧ t = { s with x := t.x, pc := t.pc, mem := t.mem, resvValid := t.resvValid }) ∧
    (¬Matches s (xu s rs1) ∨ (s.cfg.scMayFail = true ∧ Config.scFails s.draws = true) →
      ∃ t, exec i s = .next t ∧ (t.pc.toNat : Int) = seqPc s 4 ∧ (rd ≠ 0 → (t.rdX s.w rd).toNat = 1) ∧
        (∀ r, r ≠ rd → t.rdX 64 r = s.rdX 64 r) ∧ (rd = 0 → t.x = s.x) ∧ SameBytes s t ∧
        t.resvValid = false ∧ t = { s with x := t.x, pc := t.pc, resvValid := t.resvValid })

/-- A signed value of n bytes. -/
def Sys2Proof.Spec.signedOf (n v : Nat) : Int := (v : Int).bmod (256 ^ n)

/-- Every AMO with its width and its operation on the old value and the source, both of n bytes (R578 to R586, R589 to
R597). -/
inductive Sys2Proof.Spec.IsAmo : Instr → Reg → Reg → Reg → Nat → (Nat → Nat → Nat) → Prop where
  | swapW (rd rs1 rs2 : Reg) (aq rl : Bool) : IsAmo (.amoswapW rd rs1 rs2 aq rl) rd rs1 rs2 4 fun _ b => b
  | addW (rd rs1 rs2 : Reg) (aq rl : Bool) : IsAmo (.amoaddW rd rs1 rs2 aq rl) rd rs1 rs2 4 fun a b => a + b
  | xorW (rd rs1 rs2 : Reg) (aq rl : Bool) : IsAmo (.amoxorW rd rs1 rs2 aq rl) rd rs1 rs2 4 fun a b => a ^^^ b
  | andW (rd rs1 rs2 : Reg) (aq rl : Bool) : IsAmo (.amoandW rd rs1 rs2 aq rl) rd rs1 rs2 4 fun a b => a &&& b
  | orW (rd rs1 rs2 : Reg) (aq rl : Bool) : IsAmo (.amoorW rd rs1 rs2 aq rl) rd rs1 rs2 4 fun a b => a ||| b
  | minW (rd rs1 rs2 : Reg) (aq rl : Bool) :
      IsAmo (.amominW rd rs1 rs2 aq rl) rd rs1 rs2 4 fun a b => if signedOf 4 a < signedOf 4 b then a else b
  | maxW (rd rs1 rs2 : Reg) (aq rl : Bool) :
      IsAmo (.amomaxW rd rs1 rs2 aq rl) rd rs1 rs2 4 fun a b => if signedOf 4 a > signedOf 4 b then a else b
  | minuW (rd rs1 rs2 : Reg) (aq rl : Bool) : IsAmo (.amominuW rd rs1 rs2 aq rl) rd rs1 rs2 4 fun a b => if a < b then a else b
  | maxuW (rd rs1 rs2 : Reg) (aq rl : Bool) : IsAmo (.amomaxuW rd rs1 rs2 aq rl) rd rs1 rs2 4 fun a b => if a > b then a else b
  | swapD (rd rs1 rs2 : Reg) (aq rl : Bool) : IsAmo (.amoswapD rd rs1 rs2 aq rl) rd rs1 rs2 8 fun _ b => b
  | addD (rd rs1 rs2 : Reg) (aq rl : Bool) : IsAmo (.amoaddD rd rs1 rs2 aq rl) rd rs1 rs2 8 fun a b => a + b
  | xorD (rd rs1 rs2 : Reg) (aq rl : Bool) : IsAmo (.amoxorD rd rs1 rs2 aq rl) rd rs1 rs2 8 fun a b => a ^^^ b
  | andD (rd rs1 rs2 : Reg) (aq rl : Bool) : IsAmo (.amoandD rd rs1 rs2 aq rl) rd rs1 rs2 8 fun a b => a &&& b
  | orD (rd rs1 rs2 : Reg) (aq rl : Bool) : IsAmo (.amoorD rd rs1 rs2 aq rl) rd rs1 rs2 8 fun a b => a ||| b
  | minD (rd rs1 rs2 : Reg) (aq rl : Bool) :
      IsAmo (.amominD rd rs1 rs2 aq rl) rd rs1 rs2 8 fun a b => if signedOf 8 a < signedOf 8 b then a else b
  | maxD (rd rs1 rs2 : Reg) (aq rl : Bool) :
      IsAmo (.amomaxD rd rs1 rs2 aq rl) rd rs1 rs2 8 fun a b => if signedOf 8 a > signedOf 8 b then a else b
  | minuD (rd rs1 rs2 : Reg) (aq rl : Bool) : IsAmo (.amominuD rd rs1 rs2 aq rl) rd rs1 rs2 8 fun a b => if a < b then a else b
  | maxuD (rd rs1 rs2 : Reg) (aq rl : Bool) : IsAmo (.amomaxuD rd rs1 rs2 aq rl) rd rs1 rs2 8 fun a b => if a > b then a else b

/-- An AMO reads the old value, writes the combination with the low n bytes of x[rs2], gives rd the old value
sign-extended, and clears the reservation exactly when it touches the reserved block; with rd = 0 memory changes all the
same (R574, R572). -/
def Obligations.AmoResults : Prop :=
  ∀ (s : State) (i : Instr) (rd rs1 rs2 : Reg) (n : Nat) (op : Nat → Nat → Nat), s.MemCanonical →
    IsAmo i rd rs1 rs2 n op → Live i s → xu s rs1 % n = 0 → Allowed s .read (xu s rs1) n → Allowed s .write (xu s rs1) n →
    ∃ t, exec i s = .next t ∧ (t.pc.toNat : Int) = seqPc s 4 ∧
      (rd ≠ 0 → ((t.rdX s.w rd).toNat : Int) = wrap s (signedOf n (leValue s (xu s rs1) n))) ∧
      (∀ r, r ≠ rd → t.rdX 64 r = s.rdX 64 r) ∧ (rd = 0 → t.x = s.x) ∧
      Wrote s t (xu s rs1) n (op (leValue s (xu s rs1) n) (xu s rs2 % 256 ^ n).toNat) ∧
      (t.resvValid = true ↔ s.resvValid = true ∧ ¬Touches s (xu s rs1) n) ∧
      t = { s with x := t.x, pc := t.pc, mem := t.mem, resvValid := t.resvValid }

/-- LR, SC and AMO need an aligned address whatever MISALIGNED_LS says, and the check comes before any access: LR traps as a
load, SC and AMO as a store. A failing access of LR is a load fault, of a matching SC a store fault, and of an AMO a store
fault even when its read half fails, of the read half's kind whatever its write half does (R570, R805; that it is the read
half's is log 11). -/
def Obligations.AtomicTraps : Prop :=
  ∀ (s : State) (i : Instr) (rd rs1 rs2 : Reg) (n : Nat), Live i s →
    (xu s rs1 % n ≠ 0 →
      (IsLr i rd rs1 n → Traps i s .loadMisaligned (addrWord s (xu s rs1))) ∧
      (IsSc i rd rs1 rs2 n → Traps i s .storeMisaligned (addrWord s (xu s rs1))) ∧
      (∀ op, IsAmo i rd rs1 rs2 n op → Traps i s .storeMisaligned (addrWord s (xu s rs1)))) ∧
    (∀ f, xu s rs1 % n = 0 →
      (IsLr i rd rs1 n → FailsWith s .read (xu s rs1) n f → Traps i s (loadFault f) (addrWord s (xu s rs1))) ∧
      (IsSc i rd rs1 rs2 n → Matches s (xu s rs1) → (s.cfg.scMayFail = true → Config.scFails s.draws = false) →
        FailsWith s .write (xu s rs1) n f → Traps i s (storeFault f) (addrWord s (xu s rs1))) ∧
      (∀ op, IsAmo i rd rs1 rs2 n op →
        (FailsWith s .read (xu s rs1) n f ∨ (Allowed s .read (xu s rs1) n ∧ FailsWith s .write (xu s rs1) n f)) →
        Traps i s (storeFault f) (addrWord s (xu s rs1))))
/-! ## System instructions -/

/-- The instruction completes with the pc at a target, and the block changes nothing else; the external unit, FS and the
memory map, which are the unit's and the memory system's, may change. -/
def Sys2Proof.Spec.GoesTo (i : Instr) (s : State) (target : Int) : Prop :=
  ∃ t, exec i s = .next t ∧ (t.pc.toNat : Int) = target ∧ SameBytes s t ∧
    t = { s with pc := t.pc, unit := t.unit, fs := t.fs, map := t.map }

/-- FENCE and FENCE.I change nothing but the pc; WFI and SFENCE.VMA neither where the standard unit allows them, and where
it forbids them they are illegal (R420, R421, R433, R434; the standard unit's answers are log 33, that it completes them with
its own registers as they were log 25, that it leaves FS log 31, and the memory map log 9). With a unit of which
nothing is known they advance the pc on every answer but illegal, a redirection too, and change nothing else of the block
(R433, R434; what the unit then does to itself, FS and the memory map is log 7). -/
def Obligations.OrderingInstructionsOnlyAdvance : Prop :=
  ∀ s : State,
    (∀ fm pred succ rs1 rd, Sets (.fence fm pred succ rs1 rd) s 4 0 0) ∧
    (∀ imm rs1 rd, Sets (.fenceI imm rs1 rd) s 4 0 0) ∧
    (s.cfg.unitKind = .standard →
      ((s.unit.tw = true → s.unit.priv = .machine) → Sets .wfi s 4 0 0) ∧
      (s.unit.priv ≠ .user → (s.unit.priv = .supervisor → s.unit.tvm = false) →
        ∀ rs1 rs2, Sets (.sfenceVma rs1 rs2) s 4 0 0) ∧
      (s.unit.tw = true → s.unit.priv ≠ .machine → TrapsIllegal .wfi s) ∧
      (s.unit.priv = .user ∨ (s.unit.priv = .supervisor ∧ s.unit.tvm = true) →
        ∀ rs1 rs2, TrapsIllegal (.sfenceVma rs1 rs2) s)) ∧
    (s.cfg.unitKind = .unspecified → ∀ i, i = .wfi ∨ (∃ rs1 rs2, i = .sfenceVma rs1 rs2) →
      match Config.privAnswer s.draws with
      | .illegal => TrapsIllegal i s
      | .redirect _ | .proceed => GoesTo i s (seqPc s 4))

/-- ECALL traps with the cause of the current mode and tval 0, EBREAK and C.EBREAK with Breakpoint and tval pc, each at
its own address (R422, R423, R498, R806). What the trap does is `TrapTaken`: the block's part is R811, the standard unit's
entry R812 (log 6), the record of the call log 16. -/
def Obligations.CallsAndBreakpointsTrap : Prop :=
  ∀ s : State,
    Traps .ecall s (match s.unit.priv with
      | .user => .ecallFromU
      | .supervisor => .ecallFromS
      | .machine => .ecallFromM) 0 ∧
    Traps .ebreak s .breakpoint s.pc ∧
    (s.cfg.cEn = true → Traps .cEbreak s .breakpoint s.pc)

/-- An exception pc as a return goes to it: aligned to IALIGN. -/
def Sys2Proof.Spec.returnPc (s : State) (epc : Word) : Int := wrap s (epc.toNat / align s * align s)

/-- MRET in M-mode goes to mepc and restores the mode from MPP, MIE from MPIE, sets MPIE, leaves U in MPP and clears MPRV
when it leaves M-mode; SRET in M-mode, or in S-mode with TSR = 0, does the same with sepc, SPP, SIE and SPIE. Elsewhere
they are illegal (R431, R432, R814; the standard unit's layout and answers are log 6 and 33, that a return aligns the target
log 22, that it leaves FS and the memory map log 9 and 31). With a unit of which nothing is known they go where it redirects
them, are illegal where it says so, and on `continue` advance (log 7). -/
def Obligations.TrapReturns : Prop :=
  ∀ s : State,
   (s.cfg.unitKind = .standard →
    (s.unit.priv = .machine →
      ∃ t, exec .mret s = .next t ∧ (t.pc.toNat : Int) = returnPc s s.unit.mepc ∧
        t = { s with pc := t.pc, unit := { s.unit with priv := s.unit.mpp, mie := s.unit.mpie, mpie := true, mpp := .user
                                                       mprv := s.unit.mprv && decide (s.unit.mpp = .machine) } }) ∧
    (s.unit.priv = .machine ∨ (s.unit.priv = .supervisor ∧ s.unit.tsr = false) →
      ∃ t, exec .sret s = .next t ∧ (t.pc.toNat : Int) = returnPc s s.unit.sepc ∧
        t = { s with pc := t.pc, unit := { s.unit with priv := if s.unit.spp then .supervisor else .user
                                                       sie := s.unit.spie, spie := true, spp := false
                                                       mprv := s.unit.mprv && decide (s.unit.priv ≠ .machine) } }) ∧
    (s.unit.priv ≠ .machine → TrapsIllegal .mret s) ∧
    (s.unit.priv = .user ∨ (s.unit.priv = .supervisor ∧ s.unit.tsr = true) → TrapsIllegal .sret s)) ∧
   (s.cfg.unitKind = .unspecified → ∀ i, i = .mret ∨ i = .sret →
    match Config.privAnswer s.draws with
    | .illegal => TrapsIllegal i s
    | .redirect a => GoesTo i s (wrap s a.toNat)
    | .proceed => GoesTo i s (seqPc s 4))

/-- A CSR instruction in a state: its CSR, destination, the value it writes for each value read, whether it reads and
whether it writes (R425 to R430). -/
structure Sys2Proof.Spec.CsrOp where
  instr  : Instr
  csr    : BitVec 12
  rd     : Reg
  newOf  : Nat → Nat
  reads  : Prop
  writes : Prop

/-- Clear the bits of m in v. -/
def Sys2Proof.Spec.clearBits (v m : Nat) : Nat := v ^^^ (v &&& m)

/-- The six CSR instructions: CSRRW, CSRRS, CSRRC, CSRRWI, CSRRSI, CSRRCI. -/
inductive Sys2Proof.Spec.IsCsr (s : State) : CsrOp → Prop where
  | rw (rd : Reg) (csr : BitVec 12) (rs1 : Reg) :
      IsCsr s ⟨.csrrw rd csr rs1, csr, rd, fun _ => (xu s rs1).toNat, rd ≠ 0, True⟩
  | rs (rd : Reg) (csr : BitVec 12) (rs1 : Reg) :
      IsCsr s ⟨.csrrs rd csr rs1, csr, rd, fun v => v ||| (xu s rs1).toNat, True, rs1 ≠ 0⟩
  | rc (rd : Reg) (csr : BitVec 12) (rs1 : Reg) :
      IsCsr s ⟨.csrrc rd csr rs1, csr, rd, fun v => clearBits v (xu s rs1).toNat, True, rs1 ≠ 0⟩
  | rwi (rd : Reg) (csr : BitVec 12) (u : BitVec 5) :
      IsCsr s ⟨.csrrwi rd csr u, csr, rd, fun _ => u.toNat, rd ≠ 0, True⟩
  | rsi (rd : Reg) (csr : BitVec 12) (u : BitVec 5) :
      IsCsr s ⟨.csrrsi rd csr u, csr, rd, fun v => v ||| u.toNat, True, u ≠ 0⟩
  | rci (rd : Reg) (csr : BitVec 12) (u : BitVec 5) :
      IsCsr s ⟨.csrrci rd csr u, csr, rd, fun v => clearBits v u.toNat, True, u ≠ 0⟩

/-- A register write beside other changes: rd gets v, no other register changes. -/
def Sys2Proof.Spec.WritesX (s t : State) (rd : Reg) (v : Int) : Prop :=
  (rd ≠ 0 → ((t.rdX s.w rd).toNat : Int) = wrap s v) ∧ (∀ r, r ≠ rd → t.rdX 64 r = s.rdX 64 r) ∧ (rd = 0 → t.x = s.x)

/-- fcsr as a number: frm above the five flags (R60). -/
def Sys2Proof.Spec.fcsr (s : State) : Nat := s.frm.toNat * 32 + s.fflags.toNat

/-- Reading and writing fflags, frm and fcsr, in every mode: rd gets the old value, the fields the CSR holds get the new
one, FS becomes Dirty exactly when the instruction writes, and nothing else changes (R58 to R61, R425 to R430). -/
def Obligations.FpCsrResults : Prop :=
  ∀ (s : State) (o : CsrOp), IsCsr s o → s.cfg.fOn = true → o.csr = 1 ∨ o.csr = 2 ∨ o.csr = 3 →
    let old := if o.csr = 1 then s.fflags.toNat else if o.csr = 2 then s.frm.toNat else fcsr s
    let new := o.newOf old
    ∃ t, exec o.instr s = .next t ∧ (t.pc.toNat : Int) = seqPc s 4 ∧ WritesX s t o.rd old ∧ SameBytes s t ∧
      (o.writes →
        t.fflags.toNat = (if o.csr = 2 then s.fflags.toNat else new % 32) ∧
        t.frm.toNat = (if o.csr = 1 then s.frm.toNat else if o.csr = 2 then new % 8 else new / 32 % 8) ∧ t.fs = .dirty) ∧
      (¬o.writes → t.fflags = s.fflags ∧ t.frm = s.frm ∧ t.fs = s.fs) ∧
      t = { s with x := t.x, pc := t.pc, fflags := t.fflags, frm := t.frm, fs := t.fs }

/-- The mode may use the CSR, and does not write a read-only one (R424). -/
def Sys2Proof.Spec.CsrPermitted (s : State) (o : CsrOp) : Prop :=
  o.csr.toNat / 256 % 4 ≤ (match s.unit.priv with | .user => 0 | .supervisor => 1 | .machine => 3) ∧
    (o.writes → o.csr.toNat / 1024 ≠ 3)

/-- A bit in its place, as a number. -/
def Sys2Proof.Spec.place (b : Bool) (k : Nat) : Nat := if b then 2 ^ k else 0

/-- FS as it stands at bits 14:13 (R55). -/
def Sys2Proof.Spec.fsNum : FS → Nat
  | .off => 0
  | .initial => 1
  | .clean => 2
  | .dirty => 3

/-- A mode as it stands in MPP (log 6). -/
def Sys2Proof.Spec.privNum : Priv → Nat
  | .user => 0
  | .supervisor => 1
  | .machine => 3

/-- sstatus: SIE 1, SPIE 5, SPP 8, FS 14:13, SUM 18, MXR 19, SD on top, and UXL = 2 with XLEN = 64 (log 6, 24). -/
def Sys2Proof.Spec.sstatusNum (s : State) : Nat :=
  place s.unit.sie 1 + place s.unit.spie 5 + place s.unit.spp 8 + fsNum s.fs * 2 ^ 13 + place s.unit.sum 18 +
    place s.unit.mxr 19 + place (decide (s.fs = .dirty)) (s.w - 1) + place (decide (s.cfg.xlen = .rv64)) 33

/-- mstatus: those of sstatus, MIE 3, MPIE 7, MPP 12:11, MPRV 17, TVM 20, TW 21, TSR 22, and SXL = 2 with XLEN = 64
(log 6, 24). -/
def Sys2Proof.Spec.mstatusNum (s : State) : Nat :=
  sstatusNum s + place s.unit.mie 3 + place s.unit.mpie 7 + privNum s.unit.mpp * 2 ^ 11 + place s.unit.mprv 17 +
    place s.unit.tvm 20 + place s.unit.tw 21 + place s.unit.tsr 22 + place (decide (s.cfg.xlen = .rv64)) 35

/-- Every trap CSR of the standard unit with the value it reads as: the family's numbers and layout (log 6), mepc and sepc
aligned (log 22), sie and sip the delegated bits of mie and mip. -/
def Sys2Proof.Spec.heldCsrs (s : State) : List (BitVec 12 × Nat) :=
  let u := s.unit
  let n := (align s).toNat
  [(0x300, mstatusNum s), (0x302, u.medeleg.toNat), (0x303, u.mideleg.toNat), (0x304, u.ie.toNat), (0x305, u.mtvec.toNat),
   (0x341, u.mepc.toNat / n * n), (0x342, u.mcause.toNat), (0x343, u.mtval.toNat), (0x344, u.ip.toNat),
   (0x100, sstatusNum s), (0x104, u.ie.toNat &&& u.mideleg.toNat), (0x105, u.stvec.toNat), (0x141, u.sepc.toNat / n * n),
   (0x142, u.scause.toNat), (0x143, u.stval.toNat), (0x144, u.ip.toNat &&& u.mideleg.toNat)]

/-- old with the bits of mask taken from v. -/
def Sys2Proof.Spec.merged (old : Word) (mask v : Nat) : Word := BitVec.ofNat 64 (clearBits old.toNat mask ||| (v &&& mask))

/-- The fields of sstatus after v is written to it. -/
def Sys2Proof.Spec.withSstatus (u : TrapUnit) (v : Nat) : TrapUnit :=
  { u with sie := v.testBit 1, spie := v.testBit 5, spp := v.testBit 8, sum := v.testBit 18, mxr := v.testBit 19 }

/-- The unit after v is written to each trap CSR: which bits are writable is the family's (log 23). -/
def Sys2Proof.Spec.writtenCsrs (u : TrapUnit) (v : Nat) : List (BitVec 12 × TrapUnit) :=
  [(0x300, { withSstatus u v with
      mie := v.testBit 3, mpie := v.testBit 7, mprv := v.testBit 17, tvm := v.testBit 20, tw := v.testBit 21
      tsr := v.testBit 22
      mpp := if v / 2 ^ 11 % 4 = 0 then .user else if v / 2 ^ 11 % 4 = 1 then .supervisor
        else if v / 2 ^ 11 % 4 = 3 then .machine else u.mpp }),
   (0x302, { u with medeleg := BitVec.ofNat 64 (v &&& 0xB3FF) }), (0x303, { u with mideleg := BitVec.ofNat 64 (v &&& 0x222) }),
   (0x304, { u with ie := BitVec.ofNat 64 (v &&& 0xAAA) }), (0x305, { u with mtvec := BitVec.ofNat 64 (clearBits v 2) }),
   (0x341, { u with mepc := BitVec.ofNat 64 (clearBits v 1) }), (0x342, { u with mcause := BitVec.ofNat 64 v }),
   (0x343, { u with mtval := BitVec.ofNat 64 v }), (0x344, { u with ip := merged u.ip 0x222 v }), (0x100, withSstatus u v),
   (0x104, { u with ie := merged u.ie u.mideleg.toNat v }), (0x105, { u with stvec := BitVec.ofNat 64 (clearBits v 2) }),
   (0x141, { u with sepc := BitVec.ofNat 64 (clearBits v 1) }), (0x142, { u with scause := BitVec.ofNat 64 v }),
   (0x143, { u with stval := BitVec.ofNat 64 v }), (0x144, { u with ip := merged u.ip (2 &&& u.mideleg.toNat) v })]

/-- The CSR instruction completes: rd gets the old value where it is read, no register changes where it is not, the pc
advances, no byte of memory changes, and the rest is as `frame` says (R424 to R430). -/
def Sys2Proof.Spec.CsrCompletes (o : CsrOp) (s : State) (old : Nat) (frame : State → Prop) : Prop :=
  ∃ t, exec o.instr s = .next t ∧ (t.pc.toNat : Int) = seqPc s 4 ∧ (o.reads → WritesX s t o.rd old) ∧
    (¬o.reads → t.x = s.x) ∧ SameBytes s t ∧ frame t

/-- The block serves the CSR itself: fflags, frm, fcsr (R424). -/
def Sys2Proof.Spec.OfBlock (o : CsrOp) : Prop := o.csr = 1 ∨ o.csr = 2 ∨ o.csr = 3

/-- Every access that goes to the external unit. A permitted one (R424, log 29) to a trap CSR the standard unit holds gives rd
its value and changes nothing else where it does not write; where it writes it stores the bits that are writable, and the old
value goes to rd where it is read; mstatus and sstatus hold FS at bits 14:13, and no other of these CSRs changes FS (R55;
numbers, layout and masks are the model's, log 6, 22, 23, 24). That the standard unit leaves the memory map at any CSR access
is log 9, that a write of MPRV, SUM or MXR has no other effect log 32. A permitted one to a CSR the unit alone knows, counters among
them, and every access to a unit of which nothing is known, has the unit's answer: illegal is IllegalInstruction, any other
answer is the value read (R424, R819, R807 e). A write then leaves the standard unit (log 8), and may leave the other with any
state, FS and memory map (log 7). -/
def Obligations.ExternalCsrResults : Prop :=
  ∀ (s : State) (o : CsrOp), IsCsr s o →
    (s.cfg.unitKind = .standard → CsrPermitted s o →
      (∀ v, (o.csr, v) ∈ heldCsrs s →
        (¬o.writes → Sets o.instr s 4 o.rd v) ∧
        (o.writes → CsrCompletes o s v fun t =>
          let new := o.newOf (v % 2 ^ s.w) % 2 ^ s.w
          (o.csr, t.unit) ∈ writtenCsrs s.unit new ∧
            (if o.csr = 0x300 ∨ o.csr = 0x100 then fsNum t.fs = new / 2 ^ 13 % 4 else t.fs = s.fs) ∧
            t = { s with x := t.x, pc := t.pc, unit := t.unit, fs := t.fs })) ∧
      (¬OfBlock o → (∀ v, (o.csr, v) ∉ heldCsrs s) →
        match Config.csrAnswer s.draws o.csr with
        | none => TrapsIllegal o.instr s
        | some old => CsrCompletes o s old.toNat fun t => t = { s with x := t.x, pc := t.pc })) ∧
    (s.cfg.unitKind = .unspecified → ¬OfBlock o →
      match Config.csrAnswer s.draws o.csr with
      | none => TrapsIllegal o.instr s
      | some old => CsrCompletes o s old.toNat fun t =>
          t = { s with x := t.x, pc := t.pc, unit := t.unit, fs := t.fs, map := t.map })

/-- An access to fflags, frm or fcsr with F off, an access below the mode a CSR needs, and a write to a read-only number
are illegal and change nothing (R61, R424, R807 e; that the standard unit decides by csr[9:8] and csr[11:10] alone is log
29). What it answers for a permitted access is `ExternalCsrResults`. -/
def Obligations.ForbiddenCsrTraps : Prop :=
  ∀ (s : State) (o : CsrOp), IsCsr s o →
    (s.cfg.fOn = false → o.csr = 1 ∨ o.csr = 2 ∨ o.csr = 3 → TrapsIllegal o.instr s) ∧
    (s.cfg.unitKind = .standard → ¬(o.csr = 1 ∨ o.csr = 2 ∨ o.csr = 3) → ¬CsrPermitted s o → TrapsIllegal o.instr s)
/-! ## Floating point -/

/-- The two formats (R616). -/
def Sys2Proof.Spec.IsFormat (F : FpFormat) : Prop := F = binary32 ∨ F = binary64

/-- An FP source: for a single, the low word if the upper word is all ones, else 0x7FC00000; for a double, all 64 bits
(R612, R614). -/
def Sys2Proof.Spec.fpIn (s : State) (F : FpFormat) (i : Reg) : Nat :=
  if F = binary32 then
    if (s.rdF i).toNat / 2 ^ 32 = 0xFFFFFFFF then (s.rdF i).toNat % 2 ^ 32 else 0x7FC00000
  else (s.rdF i).toNat

/-- The mode an rm field selects (R622, R623). -/
def Sys2Proof.Spec.mode (s : State) (rm : BitVec 3) : Option RMode :=
  match (if rm = 7 then s.frm else rm).toNat with
  | 0 => some .rne
  | 1 => some .rtz
  | 2 => some .rdn
  | 3 => some .rup
  | 4 => some .rmm
  | _ => none

/-- The instruction completes: rd holds the pattern (a single boxed), the flags are added to fflags, FS is Dirty, and
nothing else changes (R613, R614, R620, R639). -/
def Sys2Proof.Spec.SetsFp (i : Instr) (s : State) (F : FpFormat) (rd : Reg) (bits : Nat) (fl : FpFlags) : Prop :=
  ∃ t, exec i s = .next t ∧ (t.pc.toNat : Int) = seqPc s 4 ∧
    (t.rdF rd).toNat = (if F = binary32 then 0xFFFFFFFF * 2 ^ 32 else 0) + bits ∧ (∀ r, r ≠ rd → t.rdF r = s.rdF r) ∧
    t.fflags = s.fflags ||| fl ∧ t.fs = .dirty ∧ SameBytes s t ∧
    t = { s with f := t.f, fflags := t.fflags, fs := t.fs, pc := t.pc }

/-- The same for an integer destination: FS becomes Dirty exactly when a flag is set (R620, R56). -/
def Sys2Proof.Spec.SetsFromFp (i : Instr) (s : State) (rd : Reg) (v : Int) (fl : FpFlags) : Prop :=
  ∃ t, exec i s = .next t ∧ (t.pc.toNat : Int) = seqPc s 4 ∧ WritesX s t rd v ∧ t.fflags = s.fflags ||| fl ∧
    t.fs = (if fl = 0 then s.fs else .dirty) ∧ SameBytes s t ∧
    t = { s with x := t.x, fflags := t.fflags, fs := t.fs, pc := t.pc }

/-- Every FP arithmetic instruction with its format, destination, rm field and result in a state: FADD, FSUB, FMUL, FDIV,
FSQRT, FMADD, FMSUB, FNMSUB, FNMADD, FCVT between formats and from integers, for .S and .D. -/
inductive Sys2Proof.Spec.IsArith (s : State) : Instr → FpFormat → Reg → BitVec 3 → (RMode → FpResult) → Prop where
  | faddS (rd a b : Reg) (rm : BitVec 3) : IsArith s (.faddS rd a b rm) binary32 rd rm
      fun m => binary32.add m (fpIn s binary32 a) (fpIn s binary32 b)
  | fsubS (rd a b : Reg) (rm : BitVec 3) : IsArith s (.fsubS rd a b rm) binary32 rd rm
      fun m => binary32.sub m (fpIn s binary32 a) (fpIn s binary32 b)
  | fmulS (rd a b : Reg) (rm : BitVec 3) : IsArith s (.fmulS rd a b rm) binary32 rd rm
      fun m => binary32.mul m (fpIn s binary32 a) (fpIn s binary32 b)
  | fdivS (rd a b : Reg) (rm : BitVec 3) : IsArith s (.fdivS rd a b rm) binary32 rd rm
      fun m => binary32.div m (fpIn s binary32 a) (fpIn s binary32 b)
  | fsqrtS (rd a : Reg) (rm : BitVec 3) : IsArith s (.fsqrtS rd a rm) binary32 rd rm
      fun m => binary32.sqrt m (fpIn s binary32 a)
  | fmaddS (rd a b c : Reg) (rm : BitVec 3) : IsArith s (.fmaddS rd a b c rm) binary32 rd rm
      fun m => binary32.fma m false false (fpIn s binary32 a) (fpIn s binary32 b) (fpIn s binary32 c)
  | fmsubS (rd a b c : Reg) (rm : BitVec 3) : IsArith s (.fmsubS rd a b c rm) binary32 rd rm
      fun m => binary32.fma m false true (fpIn s binary32 a) (fpIn s binary32 b) (fpIn s binary32 c)
  | fnmsubS (rd a b c : Reg) (rm : BitVec 3) : IsArith s (.fnmsubS rd a b c rm) binary32 rd rm
      fun m => binary32.fma m true false (fpIn s binary32 a) (fpIn s binary32 b) (fpIn s binary32 c)
  | fnmaddS (rd a b c : Reg) (rm : BitVec 3) : IsArith s (.fnmaddS rd a b c rm) binary32 rd rm
      fun m => binary32.fma m true true (fpIn s binary32 a) (fpIn s binary32 b) (fpIn s binary32 c)
  | fcvtSD (rd a : Reg) (rm : BitVec 3) : IsArith s (.fcvtSD rd a rm) binary32 rd rm
      fun m => binary64.convert binary32 m (fpIn s binary64 a)
  | fcvtSW (rd a : Reg) (rm : BitVec 3) : IsArith s (.fcvtSW rd a rm) binary32 rd rm fun m => binary32.ofInt m (xs32 s a)
  | fcvtSWu (rd a : Reg) (rm : BitVec 3) : IsArith s (.fcvtSWu rd a rm) binary32 rd rm fun m => binary32.ofInt m (xu32 s a)
  | fcvtSL (rd a : Reg) (rm : BitVec 3) : IsArith s (.fcvtSL rd a rm) binary32 rd rm fun m => binary32.ofInt m (xs s a)
  | fcvtSLu (rd a : Reg) (rm : BitVec 3) : IsArith s (.fcvtSLu rd a rm) binary32 rd rm fun m => binary32.ofInt m (xu s a)
  | faddD (rd a b : Reg) (rm : BitVec 3) : IsArith s (.faddD rd a b rm) binary64 rd rm
      fun m => binary64.add m (fpIn s binary64 a) (fpIn s binary64 b)
  | fsubD (rd a b : Reg) (rm : BitVec 3) : IsArith s (.fsubD rd a b rm) binary64 rd rm
      fun m => binary64.sub m (fpIn s binary64 a) (fpIn s binary64 b)
  | fmulD (rd a b : Reg) (rm : BitVec 3) : IsArith s (.fmulD rd a b rm) binary64 rd rm
      fun m => binary64.mul m (fpIn s binary64 a) (fpIn s binary64 b)
  | fdivD (rd a b : Reg) (rm : BitVec 3) : IsArith s (.fdivD rd a b rm) binary64 rd rm
      fun m => binary64.div m (fpIn s binary64 a) (fpIn s binary64 b)
  | fsqrtD (rd a : Reg) (rm : BitVec 3) : IsArith s (.fsqrtD rd a rm) binary64 rd rm
      fun m => binary64.sqrt m (fpIn s binary64 a)
  | fmaddD (rd a b c : Reg) (rm : BitVec 3) : IsArith s (.fmaddD rd a b c rm) binary64 rd rm
      fun m => binary64.fma m false false (fpIn s binary64 a) (fpIn s binary64 b) (fpIn s binary64 c)
  | fmsubD (rd a b c : Reg) (rm : BitVec 3) : IsArith s (.fmsubD rd a b c rm) binary64 rd rm
      fun m => binary64.fma m false true (fpIn s binary64 a) (fpIn s binary64 b) (fpIn s binary64 c)
  | fnmsubD (rd a b c : Reg) (rm : BitVec 3) : IsArith s (.fnmsubD rd a b c rm) binary64 rd rm
      fun m => binary64.fma m true false (fpIn s binary64 a) (fpIn s binary64 b) (fpIn s binary64 c)
  | fnmaddD (rd a b c : Reg) (rm : BitVec 3) : IsArith s (.fnmaddD rd a b c rm) binary64 rd rm
      fun m => binary64.fma m true true (fpIn s binary64 a) (fpIn s binary64 b) (fpIn s binary64 c)
  | fcvtDS (rd a : Reg) (rm : BitVec 3) : IsArith s (.fcvtDS rd a rm) binary64 rd rm
      fun m => binary32.convert binary64 m (fpIn s binary32 a)
  | fcvtDW (rd a : Reg) (rm : BitVec 3) : IsArith s (.fcvtDW rd a rm) binary64 rd rm fun m => binary64.ofInt m (xs32 s a)
  | fcvtDWu (rd a : Reg) (rm : BitVec 3) : IsArith s (.fcvtDWu rd a rm) binary64 rd rm fun m => binary64.ofInt m (xu32 s a)
  | fcvtDL (rd a : Reg) (rm : BitVec 3) : IsArith s (.fcvtDL rd a rm) binary64 rd rm fun m => binary64.ofInt m (xs s a)
  | fcvtDLu (rd a : Reg) (rm : BitVec 3) : IsArith s (.fcvtDLu rd a rm) binary64 rd rm fun m => binary64.ofInt m (xu s a)

/-- Every FP arithmetic instruction with a valid rounding mode completes with its result: the operation on its unboxed
sources, which the statements on rounding and special values describe, and its flags accrued (R612, R620, R623, R639). -/
def Obligations.FpArithmeticCompletes : Prop :=
  ∀ (s : State) (i : Instr) (F : FpFormat) (rd : Reg) (rm : BitVec 3) (r : RMode → FpResult) (m : RMode),
    IsArith s i F rd rm r → Live i s → mode s rm = some m → SetsFp i s F rd (r m).bits (r m).flags

/-- Every FP conversion to an integer, with its source format and destination range: FCVT.W, .WU, .L, .LU from .S and .D
(R633). -/
inductive Sys2Proof.Spec.IsToInt : Instr → FpFormat → Reg → Reg → BitVec 3 → Int → Int → Prop where
  | wS (rd a : Reg) (rm : BitVec 3) : IsToInt (.fcvtWS rd a rm) binary32 rd a rm (-2 ^ 31) (2 ^ 31 - 1)
  | wuS (rd a : Reg) (rm : BitVec 3) : IsToInt (.fcvtWuS rd a rm) binary32 rd a rm 0 (2 ^ 32 - 1)
  | lS (rd a : Reg) (rm : BitVec 3) : IsToInt (.fcvtLS rd a rm) binary32 rd a rm (-2 ^ 63) (2 ^ 63 - 1)
  | luS (rd a : Reg) (rm : BitVec 3) : IsToInt (.fcvtLuS rd a rm) binary32 rd a rm 0 (2 ^ 64 - 1)
  | wD (rd a : Reg) (rm : BitVec 3) : IsToInt (.fcvtWD rd a rm) binary64 rd a rm (-2 ^ 31) (2 ^ 31 - 1)
  | wuD (rd a : Reg) (rm : BitVec 3) : IsToInt (.fcvtWuD rd a rm) binary64 rd a rm 0 (2 ^ 32 - 1)
  | lD (rd a : Reg) (rm : BitVec 3) : IsToInt (.fcvtLD rd a rm) binary64 rd a rm (-2 ^ 63) (2 ^ 63 - 1)
  | luD (rd a : Reg) (rm : BitVec 3) : IsToInt (.fcvtLuD rd a rm) binary64 rd a rm 0 (2 ^ 64 - 1)

/-- The exact value of a finite pattern (R616). -/
def Sys2Proof.Spec.ratOf : FpVal → Rat
  | .fin neg m e => (if neg then -1 else 1) * (m : Rat) * (2 : Rat) ^ e
  | _ => 0

/-- k is the integer nearest to v in the sense of the mode (R622). -/
def Sys2Proof.Spec.RoundsTo (m : RMode) (v : Rat) (k : Int) : Prop :=
  match m with
  | .rtz => (0 ≤ v → (k : Rat) ≤ v ∧ v < k + 1) ∧ (v < 0 → v ≤ k ∧ (k : Rat) - 1 < v)
  | .rdn => (k : Rat) ≤ v ∧ v < k + 1
  | .rup => v ≤ k ∧ (k : Rat) - 1 < v
  | .rne => 2 * (v - k) < 1 ∧ -1 < 2 * (v - k) ∨ ((2 * (v - k) = 1 ∨ 2 * (v - k) = -1) ∧ k % 2 = 0)
  | .rmm => 2 * (v - k) < 1 ∧ -1 < 2 * (v - k) ∨ (0 ≤ v ∧ 2 * (v - k) = -1) ∨ (v < 0 ∧ 2 * (v - k) = 1)

/-- Conversion to an integer: a NaN or a rounded value out of range gives the table's value and NV alone; any other gives
the rounded value, with NX exactly when it differs from the input; a 32-bit result is sign-extended (R633, R623). -/
def Obligations.ToIntegerResults : Prop :=
  ∀ (s : State) (i : Instr) (F : FpFormat) (rd a : Reg) (rm : BitVec 3) (lo hi : Int) (m : RMode),
    IsToInt i F rd a rm lo hi → Live i s → mode s rm = some m →
    let widen : Int → Int := fun v => if hi < 2 ^ 32 then v.bmod (2 ^ 32) else v
    match F.decode (fpIn s F a) with
    | .nan _ => SetsFromFp i s rd (widen hi) 16
    | .inf neg => SetsFromFp i s rd (widen (if neg then lo else hi)) 16
    | .fin neg n e => ∃ k : Int, RoundsTo m (ratOf (.fin neg n e)) k ∧
        SetsFromFp i s rd (widen (if k < lo then lo else if hi < k then hi else k))
          (if k < lo ∨ hi < k then 16 else if (k : Rat) = ratOf (.fin neg n e) then 0 else 1)

/-- The FP instructions without an rm field that write an FP register, with their result in a state: sign injection, FMIN
and FMAX, FMV.W.X, FMV.D.X. -/
inductive Sys2Proof.Spec.IsFpMove (s : State) : Instr → FpFormat → Reg → FpResult → Prop where
  | sgnjS (rd a b : Reg) : IsFpMove s (.fsgnjS rd a b) binary32 rd
      ⟨fpIn s binary32 a % 2 ^ 31 + fpIn s binary32 b / 2 ^ 31 * 2 ^ 31, 0⟩
  | sgnjnS (rd a b : Reg) : IsFpMove s (.fsgnjnS rd a b) binary32 rd
      ⟨fpIn s binary32 a % 2 ^ 31 + (1 - fpIn s binary32 b / 2 ^ 31) * 2 ^ 31, 0⟩
  | sgnjxS (rd a b : Reg) : IsFpMove s (.fsgnjxS rd a b) binary32 rd
      ⟨fpIn s binary32 a % 2 ^ 31 + (fpIn s binary32 a / 2 ^ 31 + fpIn s binary32 b / 2 ^ 31) % 2 * 2 ^ 31, 0⟩
  | sgnjD (rd a b : Reg) : IsFpMove s (.fsgnjD rd a b) binary64 rd
      ⟨fpIn s binary64 a % 2 ^ 63 + fpIn s binary64 b / 2 ^ 63 * 2 ^ 63, 0⟩
  | sgnjnD (rd a b : Reg) : IsFpMove s (.fsgnjnD rd a b) binary64 rd
      ⟨fpIn s binary64 a % 2 ^ 63 + (1 - fpIn s binary64 b / 2 ^ 63) * 2 ^ 63, 0⟩
  | sgnjxD (rd a b : Reg) : IsFpMove s (.fsgnjxD rd a b) binary64 rd
      ⟨fpIn s binary64 a % 2 ^ 63 + (fpIn s binary64 a / 2 ^ 63 + fpIn s binary64 b / 2 ^ 63) % 2 * 2 ^ 63, 0⟩
  | minS (rd a b : Reg) : IsFpMove s (.fminS rd a b) binary32 rd (binary32.minMax false (fpIn s binary32 a) (fpIn s binary32 b))
  | maxS (rd a b : Reg) : IsFpMove s (.fmaxS rd a b) binary32 rd (binary32.minMax true (fpIn s binary32 a) (fpIn s binary32 b))
  | minD (rd a b : Reg) : IsFpMove s (.fminD rd a b) binary64 rd (binary64.minMax false (fpIn s binary64 a) (fpIn s binary64 b))
  | maxD (rd a b : Reg) : IsFpMove s (.fmaxD rd a b) binary64 rd (binary64.minMax true (fpIn s binary64 a) (fpIn s binary64 b))
  | mvWX (rd a : Reg) : IsFpMove s (.fmvWX rd a) binary32 rd ⟨(xu32 s a).toNat, 0⟩
  | mvDX (rd a : Reg) : IsFpMove s (.fmvDX rd a) binary64 rd ⟨(xu s a).toNat, 0⟩

/-- Sign injection changes the sign bit alone, moves copy bits, FMIN and FMAX give the result the statement on them
describes; each needs no rounding mode (R630, R636, R637). -/
def Obligations.FpMoveResults : Prop :=
  ∀ (s : State) (i : Instr) (F : FpFormat) (rd : Reg) (r : FpResult), IsFpMove s i F rd r → Live i s →
    SetsFp i s F rd r.bits r.flags

/-- Comparisons, classification and moves to an integer register: FEQ, FLT, FLE, FCLASS, FMV.X.W, FMV.X.D complete with
the result the statements on order and class describe; the moves copy raw bits, with no box check, FMV.X.W sign-extended
(R631, R632, R637). -/
def Obligations.FpToIntegerRegisterResults : Prop :=
  ∀ (s : State) (rd a b : Reg),
    (∀ F, IsFormat F → ∀ (k : FpCompare) (i : Instr),
      i = (match k with
        | .eq => if F = binary32 then .feqS rd a b else .feqD rd a b
        | .lt => if F = binary32 then .fltS rd a b else .fltD rd a b
        | .le => if F = binary32 then .fleS rd a b else .fleD rd a b) → Live i s →
      SetsFromFp i s rd (if (F.compare k (fpIn s F a) (fpIn s F b)).1 then 1 else 0) (F.compare k (fpIn s F a) (fpIn s F b)).2) ∧
    (∀ F, IsFormat F → ∀ i : Instr, i = (if F = binary32 then .fclassS rd a else .fclassD rd a) → Live i s →
      SetsFromFp i s rd (2 ^ F.classBit (fpIn s F a) : Nat) 0) ∧
    (Live (.fmvXW rd a) s → Sets (.fmvXW rd a) s 4 rd (((s.rdF a).toNat : Int).bmod (2 ^ 32))) ∧
    (Live (.fmvXD rd a) s → Sets (.fmvXD rd a) s 4 rd (s.rdF a).toNat)

/-- A single written through the box reads back the same; with any upper bit of the slot cleared it reads as the canonical
NaN (R615). -/
def Obligations.BoxRoundTrip : Prop :=
  ∀ (s : State) (i : Reg) (v : BitVec 32) (u : Word),
    (s.writeS i v).unboxS i = v ∧ ((s.writeS i v).rdF i).extractLsb' 32 32 = 0xFFFFFFFF#32 ∧
    (u.toNat / 2 ^ 32 ≠ 0xFFFFFFFF → ((s.writeS i v).writeD i u).unboxS i = 0x7FC00000#32)

/-! ## Soft-float properties -/

/-- r is the correct rounding of the exact value v in mode m: a finite pattern with the given sign, equal to v exactly when
NX is clear, on the side of v the mode asks for or nearest to v, no representable value lying better; NV, DZ and OF are
clear (R622, R627). -/
def Sys2Proof.Spec.Rounded (F : FpFormat) (m : RMode) (neg : Bool) (v : Rat) (r : FpResult) : Prop :=
  ∃ n e, F.decode r.bits = .fin neg n e ∧
    (r.flags &&& 1 = 0 ↔ ratOf (.fin neg n e) = v) ∧ r.flags &&& 28 = 0 ∧
    ∀ p neg' n' e', F.decode p = .fin neg' n' e' →
      let best := ratOf (.fin neg n e)
      let other := ratOf (.fin neg' n' e')
      match m with
      | .rdn => best ≤ v ∧ (other ≤ v → other ≤ best)
      | .rup => v ≤ best ∧ (v ≤ other → best ≤ other)
      | .rtz => (0 ≤ v → 0 ≤ best ∧ best ≤ v ∧ (other ≤ v → other ≤ best)) ∧
          (v ≤ 0 → best ≤ 0 ∧ v ≤ best ∧ (v ≤ other → best ≤ other))
      | .rne | .rmm => (best - v ≤ other - v ∨ best - v ≤ v - other) ∧ (v - best ≤ other - v ∨ v - best ≤ v - other)

/-- One rounding is right in every mode and both formats: `roundPack` of (-1)^neg * n * 2^e, when it does not overflow, is
the correct rounding of that value, with its sign (R622, R627). -/
def Obligations.RoundingIsCorrect : Prop :=
  ∀ (F : FpFormat) (m : RMode) (neg : Bool) (n : Nat) (e : Int), IsFormat F → (F.roundPack m neg n e).flags &&& 4 = 0 →
    Rounded F m neg (ratOf (.fin neg n e)) (F.roundPack m neg n e)

/-- A pattern of a sign and a magnitude. -/
def Sys2Proof.Spec.withSign (F : FpFormat) (neg : Bool) (magnitude : Nat) : Nat := (if neg then F.signBit else 0) + magnitude

/-- The magnitude of a value. -/
def Sys2Proof.Spec.mag (v : Rat) : Rat := if v < 0 then -v else v

/-- The largest finite value: p ones below 2^(emax + 1) (R616). -/
def Sys2Proof.Spec.maxFinite (F : FpFormat) : Rat := ratOf (.fin false (2 ^ F.prec - 1) (2 ^ (F.expBits - 1) - F.prec))

/-- The smallest normal value: 2^-126 or 2^-1022 (R624). -/
def Sys2Proof.Spec.minNormal (F : FpFormat) : Rat := ratOf (.fin false 1 (2 - 2 ^ (F.expBits - 1)))

/-- 2^q is the last place of v written with p digits, with no bound on the exponent. -/
def Sys2Proof.Spec.IsPlace (F : FpFormat) (v : Rat) (q : Int) : Prop :=
  ratOf (.fin false (2 ^ (F.prec - 1)) q) ≤ mag v ∧ mag v < ratOf (.fin false (2 ^ F.prec) q)

/-- 2^q is the last place of v in the format: that of p digits, but never below the place of the subnormals. -/
def Sys2Proof.Spec.IsLastPlace (F : FpFormat) (v : Rat) (q : Int) : Prop :=
  let least : Int := 3 - 2 ^ (F.expBits - 1) - F.prec
  (least ≤ q ∧ IsPlace F v q) ∨ (q = least ∧ mag v < ratOf (.fin false (2 ^ (F.prec - 1)) q))

/-- What an overflow delivers (R625). -/
def Sys2Proof.Spec.overflowBits (F : FpFormat) (m : RMode) (neg : Bool) : Nat :=
  withSign F neg (match m with
    | .rne | .rmm => F.infBits
    | .rtz => F.infBits - 1
    | .rdn => if neg then F.infBits else F.infBits - 1
    | .rup => if neg then F.infBits - 1 else F.infBits)

/-- r is the one rounding of the nonzero value v. OF is set exactly when v rounded to p digits with no bound on the exponent
exceeds the largest finite value; UF exactly when NX is and that rounding lies below the smallest normal. On overflow the
result is what the mode says, with OF and NX. Else it is finite, with the sign of v, and is v rounded at its last place, a
tie as the mode says, NX being set exactly when it differs from v; NV and DZ are clear (R619, R622, R624, R625, R627). -/
def Sys2Proof.Spec.IsRounding (F : FpFormat) (m : RMode) (v : Rat) (r : FpResult) : Prop :=
  let neg := decide (v < 0)
  (∀ q k : Int, IsPlace F v q → RoundsTo m (v / (2 : Rat) ^ q) k →
    let z := mag ((k : Rat) * (2 : Rat) ^ q)
    (r.flags &&& 4 ≠ 0 ↔ maxFinite F < z) ∧ (r.flags &&& 2 ≠ 0 ↔ r.flags &&& 1 ≠ 0 ∧ z < minNormal F)) ∧
  (r.flags &&& 4 ≠ 0 → r = ⟨overflowBits F m neg, 5⟩) ∧
  (r.flags &&& 4 = 0 → ∃ n e, r.bits < 2 ^ F.width ∧ F.decode r.bits = .fin neg n e ∧
    (r.flags &&& 1 = 0 ↔ ratOf (.fin neg n e) = v) ∧ r.flags &&& 24 = 0 ∧
    ∀ q k : Int, IsLastPlace F v q → RoundsTo m (v / (2 : Rat) ^ q) k → ratOf (.fin neg n e) = (k : Rat) * (2 : Rat) ^ q)

/-- `roundPack` is that rounding of (-1)^neg * n * 2^e, at every place and in every mode: ties at normal and subnormal places
alike, overflow exactly when R625 has it, underflow exactly when R624 has it. A zero keeps its sign, with no flag (R619,
R622, R624, R625, R627). -/
def Obligations.TiesOverflowAndUnderflow : Prop :=
  ∀ (F : FpFormat) (m : RMode) (neg : Bool) (n : Nat) (e : Int), IsFormat F →
    (n = 0 → F.roundPack m neg n e = ⟨withSign F neg 0, 0⟩) ∧
    (n ≠ 0 → IsRounding F m (ratOf (.fin neg n e)) (F.roundPack m neg n e))

/-- r is the exact value v rounded once, which `roundPack` does; an exact zero has the given sign and no flag. -/
def Sys2Proof.Spec.OneRounding (F : FpFormat) (m : RMode) (zeroNeg : Bool) (v : Rat) (r : FpResult) : Prop :=
  (v = 0 → r = ⟨withSign F zeroNeg 0, 0⟩) ∧
    (v ≠ 0 → ∃ n e, v = ratOf (.fin (decide (v < 0)) n e) ∧ r = F.roundPack m (decide (v < 0)) n e)

/-- The sign of a sum that is exactly zero, from the signs of its two terms: theirs where they agree, else + but in RDN
(R626). -/
def Sys2Proof.Spec.zeroSumNeg (m : RMode) (n k : Bool) : Bool := if n = k then n else decide (m = .rdn)

/-- Sums, differences, products and fused multiply-adds of finite values are the exact value rounded once. An exact zero:
x + (-x), x - x and +0 + -0 are +0, or -0 in RDN; like-signed zeros keep their sign; a product has the exclusive or of the
signs; a fused result follows the signs of its negated terms (R626, R628, R629). -/
def Obligations.ExactThenRounded : Prop :=
  ∀ (F : FpFormat) (m : RMode) (a b c : Nat) (na nb nc : Bool) (ma mb mc : Nat) (ea eb ec : Int),
    F.decode a = .fin na ma ea → F.decode b = .fin nb mb eb → F.decode c = .fin nc mc ec →
    let A := ratOf (.fin na ma ea)
    let B := ratOf (.fin nb mb eb)
    let C := ratOf (.fin nc mc ec)
    OneRounding F m (zeroSumNeg m na nb) (A + B) (F.add m a b) ∧
    OneRounding F m (zeroSumNeg m na (!nb)) (A - B) (F.sub m a b) ∧
    OneRounding F m (na != nb) (A * B) (F.mul m a b) ∧
    OneRounding F m (zeroSumNeg m (na != nb) nc) (A * B + C) (F.fma m false false a b c) ∧
    OneRounding F m (zeroSumNeg m (na != nb) (!nc)) (A * B - C) (F.fma m false true a b c) ∧
    OneRounding F m (zeroSumNeg m (!(na != nb)) nc) (-(A * B) + C) (F.fma m true false a b c) ∧
    OneRounding F m (zeroSumNeg m (!(na != nb)) (!nc)) (-(A * B) - C) (F.fma m true true a b c)

/-- A quotient of finite nonzero values is the exact quotient rounded once, its sign the exclusive or of theirs: OF, UF, NX,
the overflow result and ties as for every rounding; where it does not overflow no representable value lies better. Zero over
a finite nonzero value is a zero of that sign (R622, R624 to R626, R628). -/
def Obligations.QuotientIsCorrect : Prop :=
  ∀ (F : FpFormat) (m : RMode) (a b : Nat) (na nb : Bool) (ma mb : Nat) (ea eb : Int), IsFormat F →
    F.decode a = .fin na ma ea → F.decode b = .fin nb mb eb → mb ≠ 0 →
    let v := ratOf (.fin na ma ea) / ratOf (.fin nb mb eb)
    (ma = 0 → F.div m a b = ⟨withSign F (na != nb) 0, 0⟩) ∧
    (ma ≠ 0 → IsRounding F m v (F.div m a b) ∧ decide (v < 0) = (na != nb) ∧
      ((F.div m a b).flags &&& 4 = 0 → Rounded F m (na != nb) v (F.div m a b)))

/-- The square root of a finite positive value is the correct rounding of the exact root: it is exact exactly when no flag is
set, else NX alone is; it lies on the side its mode asks for or nearest, no representable value lying better. The root is
compared with a value by comparing squares (R628). -/
def Obligations.SquareRootIsCorrect : Prop :=
  ∀ (F : FpFormat) (m : RMode) (a : Nat) (n : Nat) (e : Int), IsFormat F → F.decode a = .fin false n e → n ≠ 0 →
    ∃ k q, F.decode (F.sqrt m a).bits = .fin false k q ∧
      let v := ratOf (.fin false n e)
      let best := ratOf (.fin false k q)
      (F.sqrt m a).flags = (if best * best = v then 0 else 1) ∧
      ∀ p k' q', F.decode p = .fin false k' q' →
        let other := ratOf (.fin false k' q')
        match m with
        | .rdn | .rtz => best * best ≤ v ∧ (other * other ≤ v → other ≤ best)
        | .rup => v ≤ best * best ∧ (v ≤ other * other → best ≤ other)
        | .rne | .rmm => (best < other → 4 * v ≤ (best + other) * (best + other)) ∧
            (other < best → (best + other) * (best + other) ≤ 4 * v)

/-- An operation with a NaN input gives the canonical NaN, with NV exactly when an input is signaling, or for a fused
multiply-add when the product is 0 times ∞. ∞ - ∞, 0 times ∞, 0/0, ∞/∞ and the root of a negative value give the canonical
NaN and NV, in a fused multiply-add too, with no NaN among its inputs; a finite nonzero value over zero gives ∞ and DZ;
x + (-x) is +0, or -0 in RDN; the root of -0 is -0. Every other sum, difference, product, quotient and fused result with an
infinite input is the infinity or zero of IEEE arithmetic, with no flag (R617 to R619, R626, R628, R629). -/
def Obligations.SpecialValueResults : Prop :=
  ∀ (F : FpFormat) (m : RMode), IsFormat F →
    let nan : Nat := if F = binary32 then 0x7FC00000 else 0x7FF8000000000000
    (∀ a b c : Nat,
      let NaNOf : FpResult → Bool → Prop := fun r sig => r = ⟨nan, if sig then 16 else 0⟩
      (F.isNaN a = true ∨ F.isNaN b = true →
        NaNOf (F.add m a b) (F.isSNaN a || F.isSNaN b) ∧ NaNOf (F.sub m a b) (F.isSNaN a || F.isSNaN b) ∧
        NaNOf (F.mul m a b) (F.isSNaN a || F.isSNaN b) ∧ NaNOf (F.div m a b) (F.isSNaN a || F.isSNaN b)) ∧
      (F.isNaN a = true → NaNOf (F.sqrt m a) (F.isSNaN a)) ∧
      (∀ p q, F.isNaN a = true ∨ F.isNaN b = true ∨ F.isNaN c = true →
        NaNOf (F.fma m p q a b c) (F.isSNaN a || F.isSNaN b || F.isSNaN c ||
          (F.mag a == 0 && F.mag b == F.infBits) || (F.mag a == F.infBits && F.mag b == 0)))) ∧
    (∀ (na nb : Bool) (a : Nat),
      let inf : Bool → Nat := fun n => (if n then F.signBit else 0) + F.infBits
      let zero : Bool → Nat := fun n => if n then F.signBit else 0
      (na ≠ nb → F.add m (inf na) (inf nb) = ⟨nan, 16⟩) ∧ (na = nb → F.sub m (inf na) (inf nb) = ⟨nan, 16⟩) ∧
      F.mul m (zero na) (inf nb) = ⟨nan, 16⟩ ∧ F.mul m (inf na) (zero nb) = ⟨nan, 16⟩ ∧
      F.div m (zero na) (zero nb) = ⟨nan, 16⟩ ∧ F.div m (inf na) (inf nb) = ⟨nan, 16⟩ ∧
      (a < F.infBits →
        (a ≠ 0 → F.sqrt m (F.signBit + a) = ⟨nan, 16⟩ ∧
          F.div m (zero na + a) (zero nb) = ⟨inf (na != nb), 8⟩ ∧
          F.add m (zero na + a) (zero (!na) + a) = ⟨zero (decide (m = .rdn)), 0⟩) ∧
        F.add m (inf na) (zero nb + a) = ⟨inf na, 0⟩ ∧ F.div m (zero na + a) (inf nb) = ⟨zero (na != nb), 0⟩) ∧
      F.add m (zero na) (zero na) = ⟨zero na, 0⟩ ∧ F.sqrt m (zero na) = ⟨zero na, 0⟩ ∧
      F.sqrt m (inf true) = ⟨nan, 16⟩ ∧ F.sqrt m (inf false) = ⟨inf false, 0⟩) ∧
    (∀ (na nb nc p q : Bool) (a b c : Nat), a < F.infBits → b < F.infBits → c < F.infBits →
      let inf : Bool → Nat := fun n => withSign F n F.infBits
      let prodNeg := (na != nb) != p
      let addNeg := nc != q
      F.add m (withSign F na a) (inf nb) = ⟨inf nb, 0⟩ ∧ F.add m (inf na) (inf na) = ⟨inf na, 0⟩ ∧
      F.sub m (inf na) (withSign F nb b) = ⟨inf na, 0⟩ ∧ F.sub m (withSign F na a) (inf nb) = ⟨inf (!nb), 0⟩ ∧
      F.sub m (inf na) (inf (!na)) = ⟨inf na, 0⟩ ∧
      F.mul m (inf na) (inf nb) = ⟨inf (na != nb), 0⟩ ∧
      (b ≠ 0 → F.mul m (inf na) (withSign F nb b) = ⟨inf (na != nb), 0⟩ ∧
        F.mul m (withSign F nb b) (inf na) = ⟨inf (na != nb), 0⟩) ∧
      F.div m (inf na) (withSign F nb b) = ⟨inf (na != nb), 0⟩ ∧
      (∀ z : Nat, F.fma m p q (withSign F na 0) (inf nb) z = ⟨nan, 16⟩ ∧ F.fma m p q (inf na) (withSign F nb 0) z = ⟨nan, 16⟩) ∧
      (∀ x y : Nat, (x = inf na ∧ y = inf nb) ∨ (x = inf na ∧ y = withSign F nb b ∧ b ≠ 0) ∨
          (x = withSign F na a ∧ a ≠ 0 ∧ y = inf nb) →
        F.fma m p q x y (inf nc) = (if prodNeg = addNeg then ⟨inf prodNeg, 0⟩ else ⟨nan, 16⟩) ∧
        F.fma m p q x y (withSign F nc c) = ⟨inf prodNeg, 0⟩) ∧
      F.fma m p q (withSign F na a) (withSign F nb b) (inf nc) = ⟨inf addNeg, 0⟩)

/-- a is below b as values; -0 and +0 are equal, and -∞ and ∞ are the ends. For values that are no NaN. -/
def Sys2Proof.Spec.Below : FpVal → FpVal → Prop
  | .inf n, .inf k => n = true ∧ k = false
  | .inf n, .fin _ _ _ => n = true
  | .fin _ _ _, .inf n => n = false
  | .fin n m e, .fin k l q => ratOf (.fin n m e) < ratOf (.fin k l q)
  | _, _ => False

/-- FEQ, FLT and FLE follow the order of values, give 0 for a NaN, and set NV for a signaling NaN, FLT and FLE for any NaN;
FCLASS tells the ten classes apart (R631, R632). -/
def Obligations.ComparisonAndClassFollowValues : Prop :=
  ∀ (F : FpFormat) (a b : Nat), IsFormat F → a < 2 ^ F.width → b < 2 ^ F.width →
    let nan := F.isNaN a || F.isNaN b
    let sig := F.isSNaN a || F.isSNaN b
    F.compare .eq a b = (!nan && decide ((F.compare .lt a b).1 = false ∧ (F.compare .lt b a).1 = false), if sig then 16 else 0) ∧
    ((F.compare .lt a b).1 = true ↔ Below (F.decode a) (F.decode b)) ∧ (F.compare .lt a b).2 = (if nan then 16 else 0) ∧
    F.compare .le a b = (!nan && !(F.compare .lt b a).1, if nan then 16 else 0) ∧
    F.classBit a =
      match F.decode a with
      | .nan true => 8
      | .nan false => 9
      | .inf true => 0
      | .inf false => 7
      | .fin neg m _ =>
        if m = 0 then (if neg then 3 else 4)
        else if m < 2 ^ F.fracBits then (if neg then 2 else 5)
        else (if neg then 1 else 6)

/-- FMIN and FMAX give one of the inputs, never the larger or smaller one, prefer a number to a NaN and -0 to +0 or +0 to
-0, and set NV for a signaling NaN alone (R630). -/
def Obligations.MinMaxFollowsValues : Prop :=
  ∀ (F : FpFormat) (a b : Nat), IsFormat F → a < 2 ^ F.width → b < 2 ^ F.width →
    (∀ mx, (F.minMax mx a b).flags = if F.isSNaN a || F.isSNaN b then 16 else 0) ∧
    (∀ mx, F.isNaN a = true → F.isNaN b = true →
      (F.minMax mx a b).bits = if F = binary32 then 0x7FC00000 else 0x7FF8000000000000) ∧
    (∀ mx, F.isNaN a = true → F.isNaN b = false → (F.minMax mx a b).bits = b ∧ (F.minMax mx b a).bits = b) ∧
    (F.isNaN a = false → F.isNaN b = false →
      (∀ mx, (F.minMax mx a b).bits = a ∨ (F.minMax mx a b).bits = b) ∧
      (Below (F.decode a) (F.decode b) →
        (F.minMax false a b).bits = a ∧ (F.minMax true a b).bits = b ∧
        (F.minMax false b a).bits = a ∧ (F.minMax true b a).bits = b)) ∧
    (∀ mx, (F.minMax mx 0 F.signBit).bits = (if mx then 0 else F.signBit) ∧
      (F.minMax mx F.signBit 0).bits = (if mx then 0 else F.signBit))

/-- Conversions with an FP result. Widening a single to a double is exact and sets no flag. Narrowing a double to a single is
its one rounding; a zero keeps its sign and an infinity stays. A NaN gives the canonical NaN of the destination, with NV when
signaling (R635). An integer becomes its one rounding, and 0 becomes +0; from 32 bits to a double it is exact (R634). -/
def Obligations.ConversionsToFloat : Prop :=
  ∀ m : RMode,
    (∀ v < 2 ^ 32,
      match binary32.decode v with
      | .nan sig => binary32.convert binary64 m v = ⟨0x7FF8000000000000, if sig then 16 else 0⟩
      | .inf neg => binary32.convert binary64 m v = ⟨withSign binary64 neg 0x7FF0000000000000, 0⟩
      | .fin neg n e => (binary32.convert binary64 m v).flags = 0 ∧
          ∃ k q, binary64.decode (binary32.convert binary64 m v).bits = .fin neg k q ∧
            ratOf (.fin neg k q) = ratOf (.fin neg n e)) ∧
    (∀ v < 2 ^ 64,
      match binary64.decode v with
      | .nan sig => binary64.convert binary32 m v = ⟨0x7FC00000, if sig then 16 else 0⟩
      | .inf neg => binary64.convert binary32 m v = ⟨withSign binary32 neg 0x7F800000, 0⟩
      | .fin neg n e => OneRounding binary32 m neg (ratOf (.fin neg n e)) (binary64.convert binary32 m v)) ∧
    (∀ (F : FpFormat) (k : Int), IsFormat F → OneRounding F m false k (F.ofInt m k)) ∧
    (∀ k : Int, -2 ^ 31 ≤ k → k < 2 ^ 32 → (binary64.ofInt m k).flags = 0 ∧
      ∃ n e, binary64.decode (binary64.ofInt m k).bits = .fin (decide (k < 0)) n e ∧
        ratOf (.fin (decide (k < 0)) n e) = (k : Rat))

/-! ## Rules of the whole machine -/

/-- IllegalInstruction, with the instruction's own bits and no other effect: for a fetched word that is the encoding of no
instruction of the configuration, for an instruction the configuration lacks or whose operands are reserved, and for an
rm field that selects no mode (R177, R205, R623, R807 a to d). The second clause is the model's (log 26): decode never gives
such an instruction, and its meaning raises what its word raises. What the trap does is `TrapTaken`. -/
def Obligations.IllegalInstructionTraps : Prop :=
  (∀ (s : State) (e : Enc), s.TablesBuilt → (stepStart s).fetchEnc = .ok e →
    (∀ i, i.wf = true → i.enabled s.cfg = true → encode i ≠ e) →
    ∃ t, step s = .next t ∧ TrapTaken (stepStart s) t .illegalInstruction (rawBits e)) ∧
  (∀ (i : Instr) (s : State), ¬Live i s → TrapsIllegal i s) ∧
  (∀ (s : State) (i : Instr) (rm : BitVec 3),
    ((∃ F rd r, IsArith s i F rd rm r) ∨ ∃ F rd a lo hi, IsToInt i F rd a rm lo hi) → mode s rm = none → TrapsIllegal i s)

/-- No instruction changes the stored value of x0, a fetch fault or an illegal word neither (R43, R44). -/
def Obligations.ZeroRegisterNeverChanges : Prop :=
  ∀ s t : State, step s = .next t → t.x[0] = s.x[0] ∧ ∀ w, t.rdX w 0 = 0

/-- A step that traps changes no integer register, FP register, flag, rounding mode, FS, reservation or byte of memory (R22,
R56, R813; the record of the Trap call is log 16, and that the unit it calls leaves FS too is log 7 and 31). -/
def Obligations.TrapsArePrecise : Prop :=
  ∀ s t : State, step s = .next t → ∀ call, t.trapCall = some call →
    call.pc = s.pc ∧ t.x = s.x ∧ t.f = s.f ∧ t.fflags = s.fflags ∧ t.frm = s.frm ∧ t.fs = s.fs ∧
    t.resvValid = s.resvValid ∧ t.resvAddr = s.resvAddr ∧ t.mem = s.mem ∧ t.cfg = s.cfg ∧ t.ftable = s.ftable ∧
    t.ctable = s.ctable

/-- The block changes FS to Dirty alone, and any change of an FP register, of a flag or of frm comes with Dirty; only a CSR
instruction clears a flag or changes frm (R56, R58, R620). FS changes otherwise only by a call on the external unit: an access
to an external CSR, or MRET, SRET, WFI or SFENCE.VMA with a unit of which nothing is known (log 7); that the standard unit
leaves FS there, and that no unit changes it when a trap is taken, is the model's (log 7, 31). -/
def Obligations.FpStatusRules : Prop :=
  ∀ (i : Instr) (s t : State), exec i s = .next t →
    (t.f ≠ s.f ∨ t.fflags ≠ s.fflags ∨ t.frm ≠ s.frm → t.fs = .dirty) ∧
    (t.fs ≠ s.fs → t.fs = .dirty ∨ (∃ o, IsCsr s o ∧ o.instr = i ∧ ¬(o.csr = 1 ∨ o.csr = 2 ∨ o.csr = 3)) ∨
      (s.cfg.unitKind = .unspecified ∧ (i = .mret ∨ i = .sret ∨ i = .wfi ∨ ∃ rs1 rs2, i = .sfenceVma rs1 rs2))) ∧
    ((∀ o, IsCsr s o → o.instr ≠ i) → s.fflags &&& t.fflags = s.fflags ∧ t.frm = s.frm)

/-- Only stores, SC and AMO write memory. Only LR sets the reservation; only SC, and a write that touches the block, clear
it; nothing else changes it (R104, R571, R572). -/
def Obligations.MemoryAndReservationChanges : Prop :=
  ∀ (i : Instr) (s t : State), exec i s = .next t →
    ((∀ a v, IsStore s a v → a.instr ≠ i) → (∀ rd rs1 rs2 n, ¬IsSc i rd rs1 rs2 n) →
      (∀ rd rs1 rs2 n op, ¬IsAmo i rd rs1 rs2 n op) → SameBytes s t) ∧
    ((∀ rd rs1 n, ¬IsLr i rd rs1 n) → t.resvAddr = s.resvAddr ∧ (t.resvValid = true → s.resvValid = true)) ∧
    ((∀ rd rs1 n, ¬IsLr i rd rs1 n) → (∀ rd rs1 rs2 n, ¬IsSc i rd rs1 rs2 n) →
      s.resvValid = true → t.resvValid = false →
      (∃ a v, IsStore s a v ∧ a.instr = i ∧ Touches s (a.addr s) a.n) ∨
      (∃ rd rs1 rs2 n op, IsAmo i rd rs1 rs2 n op ∧ Touches s (xu s rs1) n))

/-- With the standard unit the mode is left only by a trap, SRET or MRET; and in U-mode no instruction that does not trap
changes anything of the unit but FS: no trap vector, no saved pc, no delegation, no interrupt enable, no mode (R818), nor the
memory map. FS, the field of the unit's mstatus the block writes (R55), the model keeps in `State.fs`; it stays or becomes
Dirty (R56). That the standard unit leaves the map at every call, a WFI in U-mode among them, is log 9, that WFI leaves its
registers log 25 and FS log 31. That a write of a CSR only the unit knows leaves the state, FS too, is log 8, which CSRs a
mode may reach, so not mstatus or sstatus, is log 29, which privileged instructions it may run log 33. -/
def Obligations.PrivilegeIsolation : Prop :=
  ∀ (i : Instr) (s t : State), s.cfg.unitKind = .standard → s.trapCall = none → exec i s = .next t →
    (t.unit.priv ≠ s.unit.priv → t.trapCall ≠ none ∨ i = .sret ∨ i = .mret) ∧
    (s.unit.priv = .user → t.trapCall = none →
      t.unit = s.unit ∧ (t.fs = s.fs ∨ t.fs = .dirty) ∧ t.map = s.map)

/-- A compressed instruction and its expansion (R201, R462 to R504). -/
inductive Sys2Proof.Spec.Expands : Instr → Instr → Prop where
  | addi4spn (rd : CReg) (imm : BitVec 8) : Expands (.cAddi4spn rd imm) (.addi (reg3 rd) 2 (BitVec.ofNat 12 (4 * imm.toNat)))
  | fld (rd rs1 : CReg) (u : BitVec 5) : Expands (.cFld rd rs1 u) (.fld (reg3 rd) (reg3 rs1) (BitVec.ofNat 12 (8 * u.toNat)))
  | lw (rd rs1 : CReg) (u : BitVec 5) : Expands (.cLw rd rs1 u) (.lw (reg3 rd) (reg3 rs1) (BitVec.ofNat 12 (4 * u.toNat)))
  | flw (rd rs1 : CReg) (u : BitVec 5) : Expands (.cFlw rd rs1 u) (.flw (reg3 rd) (reg3 rs1) (BitVec.ofNat 12 (4 * u.toNat)))
  | ld (rd rs1 : CReg) (u : BitVec 5) : Expands (.cLd rd rs1 u) (.ld (reg3 rd) (reg3 rs1) (BitVec.ofNat 12 (8 * u.toNat)))
  | fsd (rs1 rs2 : CReg) (u : BitVec 5) : Expands (.cFsd rs1 rs2 u) (.fsd (reg3 rs1) (reg3 rs2) (BitVec.ofNat 12 (8 * u.toNat)))
  | sw (rs1 rs2 : CReg) (u : BitVec 5) : Expands (.cSw rs1 rs2 u) (.sw (reg3 rs1) (reg3 rs2) (BitVec.ofNat 12 (4 * u.toNat)))
  | fsw (rs1 rs2 : CReg) (u : BitVec 5) : Expands (.cFsw rs1 rs2 u) (.fsw (reg3 rs1) (reg3 rs2) (BitVec.ofNat 12 (4 * u.toNat)))
  | sd (rs1 rs2 : CReg) (u : BitVec 5) : Expands (.cSd rs1 rs2 u) (.sd (reg3 rs1) (reg3 rs2) (BitVec.ofNat 12 (8 * u.toNat)))
  | nop (imm : BitVec 6) : Expands (.cNop imm) (.addi 0 0 (imm.signExtend 12))
  | addi (rd : Reg) (imm : BitVec 6) : Expands (.cAddi rd imm) (.addi rd rd (imm.signExtend 12))
  | addiw (rd : Reg) (imm : BitVec 6) : Expands (.cAddiw rd imm) (.addiw rd rd (imm.signExtend 12))
  | li (rd : Reg) (imm : BitVec 6) : Expands (.cLi rd imm) (.addi rd 0 (imm.signExtend 12))
  | addi16sp (imm : BitVec 6) : Expands (.cAddi16sp imm) (.addi 2 2 (BitVec.ofInt 12 (16 * imm.toInt)))
  | lui (rd : Reg) (imm : BitVec 6) : Expands (.cLui rd imm) (.lui rd (imm.signExtend 20))
  | srli (rd : CReg) (sh : BitVec 6) : Expands (.cSrli rd sh) (.srli (reg3 rd) (reg3 rd) sh)
  | srai (rd : CReg) (sh : BitVec 6) : Expands (.cSrai rd sh) (.srai (reg3 rd) (reg3 rd) sh)
  | andi (rd : CReg) (imm : BitVec 6) : Expands (.cAndi rd imm) (.andi (reg3 rd) (reg3 rd) (imm.signExtend 12))
  | sub (rd rs2 : CReg) : Expands (.cSub rd rs2) (.sub (reg3 rd) (reg3 rd) (reg3 rs2))
  | xor (rd rs2 : CReg) : Expands (.cXor rd rs2) (.xor (reg3 rd) (reg3 rd) (reg3 rs2))
  | or (rd rs2 : CReg) : Expands (.cOr rd rs2) (.or (reg3 rd) (reg3 rd) (reg3 rs2))
  | and (rd rs2 : CReg) : Expands (.cAnd rd rs2) (.and (reg3 rd) (reg3 rd) (reg3 rs2))
  | subw (rd rs2 : CReg) : Expands (.cSubw rd rs2) (.subw (reg3 rd) (reg3 rd) (reg3 rs2))
  | addw (rd rs2 : CReg) : Expands (.cAddw rd rs2) (.addw (reg3 rd) (reg3 rd) (reg3 rs2))
  | slli (rd : Reg) (sh : BitVec 6) : Expands (.cSlli rd sh) (.slli rd rd sh)
  | fldsp (rd : Reg) (u : BitVec 6) : Expands (.cFldsp rd u) (.fld rd 2 (BitVec.ofNat 12 (8 * u.toNat)))
  | lwsp (rd : Reg) (u : BitVec 6) : Expands (.cLwsp rd u) (.lw rd 2 (BitVec.ofNat 12 (4 * u.toNat)))
  | flwsp (rd : Reg) (u : BitVec 6) : Expands (.cFlwsp rd u) (.flw rd 2 (BitVec.ofNat 12 (4 * u.toNat)))
  | ldsp (rd : Reg) (u : BitVec 6) : Expands (.cLdsp rd u) (.ld rd 2 (BitVec.ofNat 12 (8 * u.toNat)))
  | mv (rd rs2 : Reg) : Expands (.cMv rd rs2) (.add rd 0 rs2)
  | add (rd rs2 : Reg) : Expands (.cAdd rd rs2) (.add rd rd rs2)
  | fsdsp (rs2 : Reg) (u : BitVec 6) : Expands (.cFsdsp rs2 u) (.fsd 2 rs2 (BitVec.ofNat 12 (8 * u.toNat)))
  | swsp (rs2 : Reg) (u : BitVec 6) : Expands (.cSwsp rs2 u) (.sw 2 rs2 (BitVec.ofNat 12 (4 * u.toNat)))
  | fswsp (rs2 : Reg) (u : BitVec 6) : Expands (.cFswsp rs2 u) (.fsw 2 rs2 (BitVec.ofNat 12 (4 * u.toNat)))
  | sdsp (rs2 : Reg) (u : BitVec 6) : Expands (.cSdsp rs2 u) (.sd 2 rs2 (BitVec.ofNat 12 (8 * u.toNat)))

/-- A compressed instruction that is no control transfer does exactly what its 32-bit expansion does, traps included,
except that its next pc is pc + 2 (R201, R460). -/
def Obligations.CompressedExecutesItsExpansion : Prop :=
  ∀ (s : State) (i j : Instr), Expands i j → Live i s → s.trapCall = none →
    ∃ t u, exec i s = .next t ∧ exec j s = .next u ∧
      (u.trapCall = none → (t.pc.toNat : Int) = seqPc s 2 ∧ t = { u with pc := t.pc }) ∧
      (u.trapCall ≠ none → t = u)

/-! ## Batches, configuration, interrupts -/

/-- A batch ends at once when the budget is 0 or the event flag is set, and ends after a step that traps. A step that does not
trap takes one unit of the budget and the batch goes on with the rest, so one whose steps do not trap makes exactly as many
as its budget. Ending it changes nothing but the batch's own state (R70; the event flag is held during the batch, log 35, and
the record of the Trap call that ends it is log 16). -/
def Obligations.BatchEnds : Prop :=
  ∀ (s : State) (n : Nat),
    (n = 0 ∨ s.eventFlag = true → runBatch n s = .next { s with budget := none, trapCall := none }) ∧
    (∀ t, n ≠ 0 → s.eventFlag = false → step (s.startBatch n) = .next t → t.trapCall ≠ none →
      runBatch n s = .next { t with budget := none }) ∧
    (∀ t, s.eventFlag = false → step (s.startBatch (n + 1)) = .next t → t.trapCall = none →
      runBatch (n + 1) s = runBatch n { t with budget := none } ∧ (n = 0 → runBatch 1 s = .next { t with budget := none }))

/-- A batch of n + 1 instructions whose first does not trap is a batch of 1 followed by a batch of n: the boundary changes
no architectural state (R866). -/
def Obligations.BatchBoundaryInvisible : Prop :=
  ∀ (s u : State) (n : Nat), runBatch 1 s = .next u → u.trapCall = none → runBatch (n + 1) s = runBatch n u

/-- A step changes no flag, table, parameter or event flag and takes one unit of budget. Turning an extension on or off
between batches rebuilds the tables and changes nothing else; inside a batch the call is refused. With F disabled FLW is
an illegal word, and enabled again it is FLW (R66, R177, R854, R865, R870). That a batch is running exactly when the budget is
there, and that enabling F or D without FP_PRESENT leaves it false, are the model's (log 30). -/
def Obligations.ConfigurationChangesOnlyBetweenBatches : Prop :=
  (∀ s t : State, step s = .next t →
    t.cfg = s.cfg ∧ t.ftable = s.ftable ∧ t.ctable = s.ctable ∧ t.eventFlag = s.eventFlag ∧
    t.budget = s.budget.map (· - 1)) ∧
  (∀ (s : State) (e : ExtFlag) (on : Bool),
    (∀ b, s.budget = some b → setExtension e on s = .refused .configInsideBatch) ∧
    (s.budget = none → ∃ t, setExtension e on s = .next t ∧ t.TablesBuilt ∧
      t = { s with cfg := t.cfg, ftable := t.ftable, ctable := t.ctable } ∧
      t.cfg = (match e with
        | .c => { s.cfg with cEn := on }
        | .m => { s.cfg with mEn := on }
        | .a => { s.cfg with aEn := on }
        | .f => { s.cfg with fEn := on && s.cfg.fpPresent }
        | .d => { s.cfg with dEn := on && s.cfg.fpPresent }))) ∧
  (∀ (cfg : Config) (rd rs1 : Reg) (imm : BitVec 12), cfg.fpPresent = true →
    decode (setFlag cfg .f false) (encode (.flw rd rs1 imm)) = .error .illegalSlot ∧
    decode (setFlag (setFlag cfg .f false) .f true) (encode (.flw rd rs1 imm)) = .ok (.flw rd rs1 imm))

/-- A write by another agent to the reserved block makes the next SC fail; a write elsewhere leaves the reservation
(R572 b). -/
def Obligations.ExternalWriteBreaksReservation : Prop :=
  ∀ (s : State) (a : BitVec s.w) (bytes : List Byte),
    (Touches s a.toNat bytes.length → (externalWrite s a bytes).resvValid = false) ∧
    (¬Touches s a.toNat bytes.length → (externalWrite s a bytes).resvValid = s.resvValid) ∧
    (s.MemCanonical → (externalWrite s a bytes).MemCanonical) ∧
    (∀ b, (∀ k < bytes.length, b ≠ byteAddr s a.toNat k) → (externalWrite s a bytes).mem.read b = s.mem.read b)

/-- The interrupt codes in the order of R816: MEI, MSI, MTI, SEI, SSI, STI. -/
def Sys2Proof.Spec.interruptCodes : List Nat := [11, 3, 7, 9, 1, 5]

/-- Interrupt c goes to S-mode: it is delegated (log 21). -/
def Sys2Proof.Spec.InterruptToS (u : TrapUnit) (c : Nat) : Prop := u.mideleg.getLsbD c = true

/-- Interrupt c is pending, enabled, and open in the mode: one to S-mode in U-mode, or in S-mode with SIE; one to M-mode below
M-mode, or in M-mode with MIE (log 21). -/
def Sys2Proof.Spec.Takeable (u : TrapUnit) (c : Nat) : Prop :=
  c ∈ interruptCodes ∧ u.ip.getLsbD c = true ∧ u.ie.getLsbD c = true ∧
    (InterruptToS u c → u.priv = .user ∨ (u.priv = .supervisor ∧ u.sie = true)) ∧
    (¬InterruptToS u c → u.priv ≠ .machine ∨ u.mie = true)

/-- Interrupt c is taken before d: one to M-mode before one to S-mode, else the earlier code (R816, log 21). -/
def Sys2Proof.Spec.TakenBefore (u : TrapUnit) (c d : Nat) : Prop :=
  (¬InterruptToS u c ∧ InterruptToS u d) ∨
    ((InterruptToS u c ↔ InterruptToS u d) ∧ interruptCodes.idxOf c < interruptCodes.idxOf d)

/-- Where an interrupt enters: BASE, or BASE + 4 * c when the vector is in vectored mode (log 21). -/
def Sys2Proof.Spec.interruptPc (s : State) (tvec : Word) (c : Nat) : Int :=
  wrap s (tvec.toNat / 4 * 4 + if tvec.toNat % 2 = 1 then 4 * c else 0)

/-- The standard unit has taken interrupt c: it saves the pc of the instruction that has not started, the mode and the enable
bit on the side it goes to, writes the cause and a tval of 0 (log 21), and changes nothing else: that it leaves FS is log 31,
the memory map log 9. -/
def Sys2Proof.Spec.InterruptTaken (s t : State) (c : Nat) : Prop :=
  let cause : Word := BitVec.ofNat 64 (2 ^ (s.w - 1) + c)
  t = { s with pc := t.pc, unit := t.unit } ∧
  (InterruptToS s.unit c →
    t.unit = { s.unit with sepc := s.pc, scause := cause, stval := 0, spie := s.unit.sie, sie := false
                           spp := decide (s.unit.priv = .supervisor), priv := .supervisor } ∧
    (t.pc.toNat : Int) = interruptPc s s.unit.stvec c) ∧
  (¬InterruptToS s.unit c →
    t.unit = { s.unit with mepc := s.pc, mcause := cause, mtval := 0, mpie := s.unit.mie, mie := false
                           mpp := s.unit.priv, priv := .machine } ∧
    (t.pc.toNat : Int) = interruptPc s s.unit.mtvec c)

/-- Between batches the standard unit takes the first of the interrupts that are pending, enabled and open in the mode; with
none, nothing happens, and inside a batch none is taken by any unit. An interrupt enters as a trap does and touches no
register, flag, reservation or byte of memory (R816, R817; the enabling rule, the order across modes, vectored mode and the
tval are the model's, log 21, that the standard unit leaves FS log 31 and the memory map log 9, and inside a batch means that
the budget is there, log 30). A unit of which nothing is known may set any pc, and leave itself, FS and the memory map in any
state, by a draw of its own (log 7, 13). -/
def Obligations.InterruptEntry : Prop :=
  ∀ s : State,
    (s.budget ≠ none → takeInterrupt s = s) ∧
    (s.cfg.unitKind = .standard →
      ((∀ c, ¬Takeable s.unit c) → takeInterrupt s = s) ∧
      (s.budget = none → (∃ c, Takeable s.unit c) →
        ∃ c, Takeable s.unit c ∧ (∀ d, Takeable s.unit d → d = c ∨ TakenBefore s.unit c d) ∧
          InterruptTaken s (takeInterrupt s) c)) ∧
    (s.cfg.unitKind = .unspecified → s.budget = none → ∃ t, takeInterrupt s = t ∧
      t = { s with pc := t.pc, unit := t.unit, fs := t.fs, map := t.map, draws := s.draws + 1 } ∧
      (t.pc.toNat : Int) = wrap s (Config.trapPc t.draws).toNat)
end

