-- ==== Sys2Proof/Laws/State.lean ====
section
/-! SUPPORT. What each update of the state leaves in each field, one lemma per field and update, so that no later proof
unfolds a record update. -/

namespace Sys2Proof.Machine

/-! ## wrX -/

@[simp] theorem State.wrX_cfg (s : State) (i : Reg) {w : Nat} (v : BitVec w) : (s.wrX i v).cfg = s.cfg := by unfold State.wrX; split <;> rfl
@[simp] theorem State.wrX_ftable (s : State) (i : Reg) {w : Nat} (v : BitVec w) : (s.wrX i v).ftable = s.ftable := by unfold State.wrX; split <;> rfl
@[simp] theorem State.wrX_ctable (s : State) (i : Reg) {w : Nat} (v : BitVec w) : (s.wrX i v).ctable = s.ctable := by unfold State.wrX; split <;> rfl
theorem State.wrX_x (s : State) (i : Reg) {w : Nat} (v : BitVec w) : (s.wrX i v).x = if i = 0 then s.x else s.x.set i.toNat (v.setWidth 64) i.isLt := by unfold State.wrX; split <;> rfl
@[simp] theorem State.wrX_pc (s : State) (i : Reg) {w : Nat} (v : BitVec w) : (s.wrX i v).pc = s.pc := by unfold State.wrX; split <;> rfl
@[simp] theorem State.wrX_f (s : State) (i : Reg) {w : Nat} (v : BitVec w) : (s.wrX i v).f = s.f := by unfold State.wrX; split <;> rfl
@[simp] theorem State.wrX_fflags (s : State) (i : Reg) {w : Nat} (v : BitVec w) : (s.wrX i v).fflags = s.fflags := by unfold State.wrX; split <;> rfl
@[simp] theorem State.wrX_frm (s : State) (i : Reg) {w : Nat} (v : BitVec w) : (s.wrX i v).frm = s.frm := by unfold State.wrX; split <;> rfl
@[simp] theorem State.wrX_fs (s : State) (i : Reg) {w : Nat} (v : BitVec w) : (s.wrX i v).fs = s.fs := by unfold State.wrX; split <;> rfl
@[simp] theorem State.wrX_resvValid (s : State) (i : Reg) {w : Nat} (v : BitVec w) : (s.wrX i v).resvValid = s.resvValid := by unfold State.wrX; split <;> rfl
@[simp] theorem State.wrX_resvAddr (s : State) (i : Reg) {w : Nat} (v : BitVec w) : (s.wrX i v).resvAddr = s.resvAddr := by unfold State.wrX; split <;> rfl
@[simp] theorem State.wrX_mem (s : State) (i : Reg) {w : Nat} (v : BitVec w) : (s.wrX i v).mem = s.mem := by unfold State.wrX; split <;> rfl
@[simp] theorem State.wrX_map (s : State) (i : Reg) {w : Nat} (v : BitVec w) : (s.wrX i v).map = s.map := by unfold State.wrX; split <;> rfl
@[simp] theorem State.wrX_unit (s : State) (i : Reg) {w : Nat} (v : BitVec w) : (s.wrX i v).unit = s.unit := by unfold State.wrX; split <;> rfl
@[simp] theorem State.wrX_budget (s : State) (i : Reg) {w : Nat} (v : BitVec w) : (s.wrX i v).budget = s.budget := by unfold State.wrX; split <;> rfl
@[simp] theorem State.wrX_eventFlag (s : State) (i : Reg) {w : Nat} (v : BitVec w) : (s.wrX i v).eventFlag = s.eventFlag := by unfold State.wrX; split <;> rfl
@[simp] theorem State.wrX_trapCall (s : State) (i : Reg) {w : Nat} (v : BitVec w) : (s.wrX i v).trapCall = s.trapCall := by unfold State.wrX; split <;> rfl
@[simp] theorem State.wrX_draws (s : State) (i : Reg) {w : Nat} (v : BitVec w) : (s.wrX i v).draws = s.draws := by unfold State.wrX; split <;> rfl

/-! ## wrF -/

@[simp] theorem State.wrF_cfg (s : State) (i : Reg) (v : Word) : (s.wrF i v).cfg = s.cfg := rfl
@[simp] theorem State.wrF_ftable (s : State) (i : Reg) (v : Word) : (s.wrF i v).ftable = s.ftable := rfl
@[simp] theorem State.wrF_ctable (s : State) (i : Reg) (v : Word) : (s.wrF i v).ctable = s.ctable := rfl
@[simp] theorem State.wrF_x (s : State) (i : Reg) (v : Word) : (s.wrF i v).x = s.x := rfl
@[simp] theorem State.wrF_pc (s : State) (i : Reg) (v : Word) : (s.wrF i v).pc = s.pc := rfl
@[simp] theorem State.wrF_f (s : State) (i : Reg) (v : Word) : (s.wrF i v).f = s.f.set i.toNat v i.isLt := rfl
@[simp] theorem State.wrF_fflags (s : State) (i : Reg) (v : Word) : (s.wrF i v).fflags = s.fflags := rfl
@[simp] theorem State.wrF_frm (s : State) (i : Reg) (v : Word) : (s.wrF i v).frm = s.frm := rfl
@[simp] theorem State.wrF_fs (s : State) (i : Reg) (v : Word) : (s.wrF i v).fs = .dirty := rfl
@[simp] theorem State.wrF_resvValid (s : State) (i : Reg) (v : Word) : (s.wrF i v).resvValid = s.resvValid := rfl
@[simp] theorem State.wrF_resvAddr (s : State) (i : Reg) (v : Word) : (s.wrF i v).resvAddr = s.resvAddr := rfl
@[simp] theorem State.wrF_mem (s : State) (i : Reg) (v : Word) : (s.wrF i v).mem = s.mem := rfl
@[simp] theorem State.wrF_map (s : State) (i : Reg) (v : Word) : (s.wrF i v).map = s.map := rfl
@[simp] theorem State.wrF_unit (s : State) (i : Reg) (v : Word) : (s.wrF i v).unit = s.unit := rfl
@[simp] theorem State.wrF_budget (s : State) (i : Reg) (v : Word) : (s.wrF i v).budget = s.budget := rfl
@[simp] theorem State.wrF_eventFlag (s : State) (i : Reg) (v : Word) : (s.wrF i v).eventFlag = s.eventFlag := rfl
@[simp] theorem State.wrF_trapCall (s : State) (i : Reg) (v : Word) : (s.wrF i v).trapCall = s.trapCall := rfl
@[simp] theorem State.wrF_draws (s : State) (i : Reg) (v : Word) : (s.wrF i v).draws = s.draws := rfl

/-! ## jump -/

@[simp] theorem State.jump_cfg (s : State) {w : Nat} (v : BitVec w) : (s.jump v).cfg = s.cfg := rfl
@[simp] theorem State.jump_ftable (s : State) {w : Nat} (v : BitVec w) : (s.jump v).ftable = s.ftable := rfl
@[simp] theorem State.jump_ctable (s : State) {w : Nat} (v : BitVec w) : (s.jump v).ctable = s.ctable := rfl
@[simp] theorem State.jump_x (s : State) {w : Nat} (v : BitVec w) : (s.jump v).x = s.x := rfl
@[simp] theorem State.jump_pc (s : State) {w : Nat} (v : BitVec w) : (s.jump v).pc = v.setWidth 64 := rfl
@[simp] theorem State.jump_f (s : State) {w : Nat} (v : BitVec w) : (s.jump v).f = s.f := rfl
@[simp] theorem State.jump_fflags (s : State) {w : Nat} (v : BitVec w) : (s.jump v).fflags = s.fflags := rfl
@[simp] theorem State.jump_frm (s : State) {w : Nat} (v : BitVec w) : (s.jump v).frm = s.frm := rfl
@[simp] theorem State.jump_fs (s : State) {w : Nat} (v : BitVec w) : (s.jump v).fs = s.fs := rfl
@[simp] theorem State.jump_resvValid (s : State) {w : Nat} (v : BitVec w) : (s.jump v).resvValid = s.resvValid := rfl
@[simp] theorem State.jump_resvAddr (s : State) {w : Nat} (v : BitVec w) : (s.jump v).resvAddr = s.resvAddr := rfl
@[simp] theorem State.jump_mem (s : State) {w : Nat} (v : BitVec w) : (s.jump v).mem = s.mem := rfl
@[simp] theorem State.jump_map (s : State) {w : Nat} (v : BitVec w) : (s.jump v).map = s.map := rfl
@[simp] theorem State.jump_unit (s : State) {w : Nat} (v : BitVec w) : (s.jump v).unit = s.unit := rfl
@[simp] theorem State.jump_budget (s : State) {w : Nat} (v : BitVec w) : (s.jump v).budget = s.budget := rfl
@[simp] theorem State.jump_eventFlag (s : State) {w : Nat} (v : BitVec w) : (s.jump v).eventFlag = s.eventFlag := rfl
@[simp] theorem State.jump_trapCall (s : State) {w : Nat} (v : BitVec w) : (s.jump v).trapCall = s.trapCall := rfl
@[simp] theorem State.jump_draws (s : State) {w : Nat} (v : BitVec w) : (s.jump v).draws = s.draws := rfl

/-! ## advance -/

@[simp] theorem State.advance_cfg (s : State) (len : Nat) : (s.advance len).cfg = s.cfg := rfl
@[simp] theorem State.advance_ftable (s : State) (len : Nat) : (s.advance len).ftable = s.ftable := rfl
@[simp] theorem State.advance_ctable (s : State) (len : Nat) : (s.advance len).ctable = s.ctable := rfl
@[simp] theorem State.advance_x (s : State) (len : Nat) : (s.advance len).x = s.x := rfl
@[simp] theorem State.advance_pc (s : State) (len : Nat) : (s.advance len).pc = (s.nextPc s.w len).setWidth 64 := rfl
@[simp] theorem State.advance_f (s : State) (len : Nat) : (s.advance len).f = s.f := rfl
@[simp] theorem State.advance_fflags (s : State) (len : Nat) : (s.advance len).fflags = s.fflags := rfl
@[simp] theorem State.advance_frm (s : State) (len : Nat) : (s.advance len).frm = s.frm := rfl
@[simp] theorem State.advance_fs (s : State) (len : Nat) : (s.advance len).fs = s.fs := rfl
@[simp] theorem State.advance_resvValid (s : State) (len : Nat) : (s.advance len).resvValid = s.resvValid := rfl
@[simp] theorem State.advance_resvAddr (s : State) (len : Nat) : (s.advance len).resvAddr = s.resvAddr := rfl
@[simp] theorem State.advance_mem (s : State) (len : Nat) : (s.advance len).mem = s.mem := rfl
@[simp] theorem State.advance_map (s : State) (len : Nat) : (s.advance len).map = s.map := rfl
@[simp] theorem State.advance_unit (s : State) (len : Nat) : (s.advance len).unit = s.unit := rfl
@[simp] theorem State.advance_budget (s : State) (len : Nat) : (s.advance len).budget = s.budget := rfl
@[simp] theorem State.advance_eventFlag (s : State) (len : Nat) : (s.advance len).eventFlag = s.eventFlag := rfl
@[simp] theorem State.advance_trapCall (s : State) (len : Nat) : (s.advance len).trapCall = s.trapCall := rfl
@[simp] theorem State.advance_draws (s : State) (len : Nat) : (s.advance len).draws = s.draws := rfl

/-! ## result -/

@[simp] theorem State.result_cfg (s : State) (len : Nat) (rd : Reg) {w : Nat} (v : BitVec w) : (s.result len rd v).cfg = s.cfg := by unfold State.result State.wrX; split <;> rfl
@[simp] theorem State.result_ftable (s : State) (len : Nat) (rd : Reg) {w : Nat} (v : BitVec w) : (s.result len rd v).ftable = s.ftable := by unfold State.result State.wrX; split <;> rfl
@[simp] theorem State.result_ctable (s : State) (len : Nat) (rd : Reg) {w : Nat} (v : BitVec w) : (s.result len rd v).ctable = s.ctable := by unfold State.result State.wrX; split <;> rfl
@[simp] theorem State.result_x (s : State) (len : Nat) (rd : Reg) {w : Nat} (v : BitVec w) : (s.result len rd v).x = (s.wrX rd v).x := by unfold State.result State.wrX; split <;> rfl
@[simp] theorem State.result_pc (s : State) (len : Nat) (rd : Reg) {w : Nat} (v : BitVec w) : (s.result len rd v).pc = (s.nextPc s.w len).setWidth 64 := by unfold State.result State.wrX; split <;> rfl
@[simp] theorem State.result_f (s : State) (len : Nat) (rd : Reg) {w : Nat} (v : BitVec w) : (s.result len rd v).f = s.f := by unfold State.result State.wrX; split <;> rfl
@[simp] theorem State.result_fflags (s : State) (len : Nat) (rd : Reg) {w : Nat} (v : BitVec w) : (s.result len rd v).fflags = s.fflags := by unfold State.result State.wrX; split <;> rfl
@[simp] theorem State.result_frm (s : State) (len : Nat) (rd : Reg) {w : Nat} (v : BitVec w) : (s.result len rd v).frm = s.frm := by unfold State.result State.wrX; split <;> rfl
@[simp] theorem State.result_fs (s : State) (len : Nat) (rd : Reg) {w : Nat} (v : BitVec w) : (s.result len rd v).fs = s.fs := by unfold State.result State.wrX; split <;> rfl
@[simp] theorem State.result_resvValid (s : State) (len : Nat) (rd : Reg) {w : Nat} (v : BitVec w) : (s.result len rd v).resvValid = s.resvValid := by unfold State.result State.wrX; split <;> rfl
@[simp] theorem State.result_resvAddr (s : State) (len : Nat) (rd : Reg) {w : Nat} (v : BitVec w) : (s.result len rd v).resvAddr = s.resvAddr := by unfold State.result State.wrX; split <;> rfl
@[simp] theorem State.result_mem (s : State) (len : Nat) (rd : Reg) {w : Nat} (v : BitVec w) : (s.result len rd v).mem = s.mem := by unfold State.result State.wrX; split <;> rfl
@[simp] theorem State.result_map (s : State) (len : Nat) (rd : Reg) {w : Nat} (v : BitVec w) : (s.result len rd v).map = s.map := by unfold State.result State.wrX; split <;> rfl
@[simp] theorem State.result_unit (s : State) (len : Nat) (rd : Reg) {w : Nat} (v : BitVec w) : (s.result len rd v).unit = s.unit := by unfold State.result State.wrX; split <;> rfl
@[simp] theorem State.result_budget (s : State) (len : Nat) (rd : Reg) {w : Nat} (v : BitVec w) : (s.result len rd v).budget = s.budget := by unfold State.result State.wrX; split <;> rfl
@[simp] theorem State.result_eventFlag (s : State) (len : Nat) (rd : Reg) {w : Nat} (v : BitVec w) : (s.result len rd v).eventFlag = s.eventFlag := by unfold State.result State.wrX; split <;> rfl
@[simp] theorem State.result_trapCall (s : State) (len : Nat) (rd : Reg) {w : Nat} (v : BitVec w) : (s.result len rd v).trapCall = s.trapCall := by unfold State.result State.wrX; split <;> rfl
@[simp] theorem State.result_draws (s : State) (len : Nat) (rd : Reg) {w : Nat} (v : BitVec w) : (s.result len rd v).draws = s.draws := by unfold State.result State.wrX; split <;> rfl

/-! ## breakResv -/

@[simp] theorem State.breakResv_cfg (s : State) (as : List Nat) : (s.breakResv as).cfg = s.cfg := rfl
@[simp] theorem State.breakResv_ftable (s : State) (as : List Nat) : (s.breakResv as).ftable = s.ftable := rfl
@[simp] theorem State.breakResv_ctable (s : State) (as : List Nat) : (s.breakResv as).ctable = s.ctable := rfl
@[simp] theorem State.breakResv_x (s : State) (as : List Nat) : (s.breakResv as).x = s.x := rfl
@[simp] theorem State.breakResv_pc (s : State) (as : List Nat) : (s.breakResv as).pc = s.pc := rfl
@[simp] theorem State.breakResv_f (s : State) (as : List Nat) : (s.breakResv as).f = s.f := rfl
@[simp] theorem State.breakResv_fflags (s : State) (as : List Nat) : (s.breakResv as).fflags = s.fflags := rfl
@[simp] theorem State.breakResv_frm (s : State) (as : List Nat) : (s.breakResv as).frm = s.frm := rfl
@[simp] theorem State.breakResv_fs (s : State) (as : List Nat) : (s.breakResv as).fs = s.fs := rfl
@[simp] theorem State.breakResv_resvValid (s : State) (as : List Nat) : (s.breakResv as).resvValid = (s.resvValid && !as.any s.inResv) := rfl
@[simp] theorem State.breakResv_resvAddr (s : State) (as : List Nat) : (s.breakResv as).resvAddr = s.resvAddr := rfl
@[simp] theorem State.breakResv_mem (s : State) (as : List Nat) : (s.breakResv as).mem = s.mem := rfl
@[simp] theorem State.breakResv_map (s : State) (as : List Nat) : (s.breakResv as).map = s.map := rfl
@[simp] theorem State.breakResv_unit (s : State) (as : List Nat) : (s.breakResv as).unit = s.unit := rfl
@[simp] theorem State.breakResv_budget (s : State) (as : List Nat) : (s.breakResv as).budget = s.budget := rfl
@[simp] theorem State.breakResv_eventFlag (s : State) (as : List Nat) : (s.breakResv as).eventFlag = s.eventFlag := rfl
@[simp] theorem State.breakResv_trapCall (s : State) (as : List Nat) : (s.breakResv as).trapCall = s.trapCall := rfl
@[simp] theorem State.breakResv_draws (s : State) (as : List Nat) : (s.breakResv as).draws = s.draws := rfl

/-! ## dropResv -/

@[simp] theorem State.dropResv_cfg (s : State) : (s.dropResv).cfg = s.cfg := rfl
@[simp] theorem State.dropResv_ftable (s : State) : (s.dropResv).ftable = s.ftable := rfl
@[simp] theorem State.dropResv_ctable (s : State) : (s.dropResv).ctable = s.ctable := rfl
@[simp] theorem State.dropResv_x (s : State) : (s.dropResv).x = s.x := rfl
@[simp] theorem State.dropResv_pc (s : State) : (s.dropResv).pc = s.pc := rfl
@[simp] theorem State.dropResv_f (s : State) : (s.dropResv).f = s.f := rfl
@[simp] theorem State.dropResv_fflags (s : State) : (s.dropResv).fflags = s.fflags := rfl
@[simp] theorem State.dropResv_frm (s : State) : (s.dropResv).frm = s.frm := rfl
@[simp] theorem State.dropResv_fs (s : State) : (s.dropResv).fs = s.fs := rfl
@[simp] theorem State.dropResv_resvValid (s : State) : (s.dropResv).resvValid = false := rfl
@[simp] theorem State.dropResv_resvAddr (s : State) : (s.dropResv).resvAddr = s.resvAddr := rfl
@[simp] theorem State.dropResv_mem (s : State) : (s.dropResv).mem = s.mem := rfl
@[simp] theorem State.dropResv_map (s : State) : (s.dropResv).map = s.map := rfl
@[simp] theorem State.dropResv_unit (s : State) : (s.dropResv).unit = s.unit := rfl
@[simp] theorem State.dropResv_budget (s : State) : (s.dropResv).budget = s.budget := rfl
@[simp] theorem State.dropResv_eventFlag (s : State) : (s.dropResv).eventFlag = s.eventFlag := rfl
@[simp] theorem State.dropResv_trapCall (s : State) : (s.dropResv).trapCall = s.trapCall := rfl
@[simp] theorem State.dropResv_draws (s : State) : (s.dropResv).draws = s.draws := rfl

/-! ## accrue -/

@[simp] theorem State.accrue_cfg (s : State) (fl : FpFlags) : (s.accrue fl).cfg = s.cfg := by unfold State.accrue; split <;> simp_all
@[simp] theorem State.accrue_ftable (s : State) (fl : FpFlags) : (s.accrue fl).ftable = s.ftable := by unfold State.accrue; split <;> simp_all
@[simp] theorem State.accrue_ctable (s : State) (fl : FpFlags) : (s.accrue fl).ctable = s.ctable := by unfold State.accrue; split <;> simp_all
@[simp] theorem State.accrue_x (s : State) (fl : FpFlags) : (s.accrue fl).x = s.x := by unfold State.accrue; split <;> simp_all
@[simp] theorem State.accrue_pc (s : State) (fl : FpFlags) : (s.accrue fl).pc = s.pc := by unfold State.accrue; split <;> simp_all
@[simp] theorem State.accrue_f (s : State) (fl : FpFlags) : (s.accrue fl).f = s.f := by unfold State.accrue; split <;> simp_all
@[simp] theorem State.accrue_fflags (s : State) (fl : FpFlags) : (s.accrue fl).fflags = s.fflags ||| fl := by unfold State.accrue; split <;> simp_all
@[simp] theorem State.accrue_frm (s : State) (fl : FpFlags) : (s.accrue fl).frm = s.frm := by unfold State.accrue; split <;> simp_all
@[simp] theorem State.accrue_fs (s : State) (fl : FpFlags) : (s.accrue fl).fs = if fl = 0 then s.fs else .dirty := by unfold State.accrue; split <;> simp_all
@[simp] theorem State.accrue_resvValid (s : State) (fl : FpFlags) : (s.accrue fl).resvValid = s.resvValid := by unfold State.accrue; split <;> simp_all
@[simp] theorem State.accrue_resvAddr (s : State) (fl : FpFlags) : (s.accrue fl).resvAddr = s.resvAddr := by unfold State.accrue; split <;> simp_all
@[simp] theorem State.accrue_mem (s : State) (fl : FpFlags) : (s.accrue fl).mem = s.mem := by unfold State.accrue; split <;> simp_all
@[simp] theorem State.accrue_map (s : State) (fl : FpFlags) : (s.accrue fl).map = s.map := by unfold State.accrue; split <;> simp_all
@[simp] theorem State.accrue_unit (s : State) (fl : FpFlags) : (s.accrue fl).unit = s.unit := by unfold State.accrue; split <;> simp_all
@[simp] theorem State.accrue_budget (s : State) (fl : FpFlags) : (s.accrue fl).budget = s.budget := by unfold State.accrue; split <;> simp_all
@[simp] theorem State.accrue_eventFlag (s : State) (fl : FpFlags) : (s.accrue fl).eventFlag = s.eventFlag := by unfold State.accrue; split <;> simp_all
@[simp] theorem State.accrue_trapCall (s : State) (fl : FpFlags) : (s.accrue fl).trapCall = s.trapCall := by unfold State.accrue; split <;> simp_all
@[simp] theorem State.accrue_draws (s : State) (fl : FpFlags) : (s.accrue fl).draws = s.draws := by unfold State.accrue; split <;> simp_all

/-! ## fpCsrWrite -/

@[simp] theorem State.fpCsrWrite_cfg (s : State) {w : Nat} (csr : BitVec 12) (v : BitVec w) : (s.fpCsrWrite csr v).cfg = s.cfg := by unfold State.fpCsrWrite; split <;> (try split) <;> rfl
@[simp] theorem State.fpCsrWrite_ftable (s : State) {w : Nat} (csr : BitVec 12) (v : BitVec w) : (s.fpCsrWrite csr v).ftable = s.ftable := by unfold State.fpCsrWrite; split <;> (try split) <;> rfl
@[simp] theorem State.fpCsrWrite_ctable (s : State) {w : Nat} (csr : BitVec 12) (v : BitVec w) : (s.fpCsrWrite csr v).ctable = s.ctable := by unfold State.fpCsrWrite; split <;> (try split) <;> rfl
@[simp] theorem State.fpCsrWrite_x (s : State) {w : Nat} (csr : BitVec 12) (v : BitVec w) : (s.fpCsrWrite csr v).x = s.x := by unfold State.fpCsrWrite; split <;> (try split) <;> rfl
@[simp] theorem State.fpCsrWrite_pc (s : State) {w : Nat} (csr : BitVec 12) (v : BitVec w) : (s.fpCsrWrite csr v).pc = s.pc := by unfold State.fpCsrWrite; split <;> (try split) <;> rfl
@[simp] theorem State.fpCsrWrite_f (s : State) {w : Nat} (csr : BitVec 12) (v : BitVec w) : (s.fpCsrWrite csr v).f = s.f := by unfold State.fpCsrWrite; split <;> (try split) <;> rfl
@[simp] theorem State.fpCsrWrite_fs (s : State) {w : Nat} (csr : BitVec 12) (v : BitVec w) : (s.fpCsrWrite csr v).fs = .dirty := by unfold State.fpCsrWrite; split <;> (try split) <;> rfl
@[simp] theorem State.fpCsrWrite_resvValid (s : State) {w : Nat} (csr : BitVec 12) (v : BitVec w) : (s.fpCsrWrite csr v).resvValid = s.resvValid := by unfold State.fpCsrWrite; split <;> (try split) <;> rfl
@[simp] theorem State.fpCsrWrite_resvAddr (s : State) {w : Nat} (csr : BitVec 12) (v : BitVec w) : (s.fpCsrWrite csr v).resvAddr = s.resvAddr := by unfold State.fpCsrWrite; split <;> (try split) <;> rfl
@[simp] theorem State.fpCsrWrite_mem (s : State) {w : Nat} (csr : BitVec 12) (v : BitVec w) : (s.fpCsrWrite csr v).mem = s.mem := by unfold State.fpCsrWrite; split <;> (try split) <;> rfl
@[simp] theorem State.fpCsrWrite_map (s : State) {w : Nat} (csr : BitVec 12) (v : BitVec w) : (s.fpCsrWrite csr v).map = s.map := by unfold State.fpCsrWrite; split <;> (try split) <;> rfl
@[simp] theorem State.fpCsrWrite_unit (s : State) {w : Nat} (csr : BitVec 12) (v : BitVec w) : (s.fpCsrWrite csr v).unit = s.unit := by unfold State.fpCsrWrite; split <;> (try split) <;> rfl
@[simp] theorem State.fpCsrWrite_budget (s : State) {w : Nat} (csr : BitVec 12) (v : BitVec w) : (s.fpCsrWrite csr v).budget = s.budget := by unfold State.fpCsrWrite; split <;> (try split) <;> rfl
@[simp] theorem State.fpCsrWrite_eventFlag (s : State) {w : Nat} (csr : BitVec 12) (v : BitVec w) : (s.fpCsrWrite csr v).eventFlag = s.eventFlag := by unfold State.fpCsrWrite; split <;> (try split) <;> rfl
@[simp] theorem State.fpCsrWrite_trapCall (s : State) {w : Nat} (csr : BitVec 12) (v : BitVec w) : (s.fpCsrWrite csr v).trapCall = s.trapCall := by unfold State.fpCsrWrite; split <;> (try split) <;> rfl
@[simp] theorem State.fpCsrWrite_draws (s : State) {w : Nat} (csr : BitVec 12) (v : BitVec w) : (s.fpCsrWrite csr v).draws = s.draws := by unfold State.fpCsrWrite; split <;> (try split) <;> rfl

/-! ## writeByte -/

@[simp] theorem State.writeByte_cfg (s : State) (a : Nat) (v : Byte) : (s.writeByte a v).cfg = s.cfg := by unfold State.writeByte; split <;> rfl
@[simp] theorem State.writeByte_ftable (s : State) (a : Nat) (v : Byte) : (s.writeByte a v).ftable = s.ftable := by unfold State.writeByte; split <;> rfl
@[simp] theorem State.writeByte_ctable (s : State) (a : Nat) (v : Byte) : (s.writeByte a v).ctable = s.ctable := by unfold State.writeByte; split <;> rfl
@[simp] theorem State.writeByte_x (s : State) (a : Nat) (v : Byte) : (s.writeByte a v).x = s.x := by unfold State.writeByte; split <;> rfl
@[simp] theorem State.writeByte_pc (s : State) (a : Nat) (v : Byte) : (s.writeByte a v).pc = s.pc := by unfold State.writeByte; split <;> rfl
@[simp] theorem State.writeByte_f (s : State) (a : Nat) (v : Byte) : (s.writeByte a v).f = s.f := by unfold State.writeByte; split <;> rfl
@[simp] theorem State.writeByte_fflags (s : State) (a : Nat) (v : Byte) : (s.writeByte a v).fflags = s.fflags := by unfold State.writeByte; split <;> rfl
@[simp] theorem State.writeByte_frm (s : State) (a : Nat) (v : Byte) : (s.writeByte a v).frm = s.frm := by unfold State.writeByte; split <;> rfl
@[simp] theorem State.writeByte_fs (s : State) (a : Nat) (v : Byte) : (s.writeByte a v).fs = s.fs := by unfold State.writeByte; split <;> rfl
@[simp] theorem State.writeByte_resvValid (s : State) (a : Nat) (v : Byte) : (s.writeByte a v).resvValid = s.resvValid := by unfold State.writeByte; split <;> rfl
@[simp] theorem State.writeByte_resvAddr (s : State) (a : Nat) (v : Byte) : (s.writeByte a v).resvAddr = s.resvAddr := by unfold State.writeByte; split <;> rfl
@[simp] theorem State.writeByte_map (s : State) (a : Nat) (v : Byte) : (s.writeByte a v).map = s.map := by unfold State.writeByte; split <;> rfl
@[simp] theorem State.writeByte_unit (s : State) (a : Nat) (v : Byte) : (s.writeByte a v).unit = s.unit := by unfold State.writeByte; split <;> rfl
@[simp] theorem State.writeByte_budget (s : State) (a : Nat) (v : Byte) : (s.writeByte a v).budget = s.budget := by unfold State.writeByte; split <;> rfl
@[simp] theorem State.writeByte_eventFlag (s : State) (a : Nat) (v : Byte) : (s.writeByte a v).eventFlag = s.eventFlag := by unfold State.writeByte; split <;> rfl
@[simp] theorem State.writeByte_trapCall (s : State) (a : Nat) (v : Byte) : (s.writeByte a v).trapCall = s.trapCall := by unfold State.writeByte; split <;> rfl
@[simp] theorem State.writeByte_draws (s : State) (a : Nat) (v : Byte) : (s.writeByte a v).draws = s.draws := by unfold State.writeByte; split <;> rfl

/-! ## unitMoves and unitServes -/

@[simp] theorem State.unitMoves_cfg (s : State) : (s.unitMoves).cfg = s.cfg := rfl
@[simp] theorem State.unitMoves_ftable (s : State) : (s.unitMoves).ftable = s.ftable := rfl
@[simp] theorem State.unitMoves_ctable (s : State) : (s.unitMoves).ctable = s.ctable := rfl
@[simp] theorem State.unitMoves_x (s : State) : (s.unitMoves).x = s.x := rfl
@[simp] theorem State.unitMoves_pc (s : State) : (s.unitMoves).pc = s.pc := rfl
@[simp] theorem State.unitMoves_f (s : State) : (s.unitMoves).f = s.f := rfl
@[simp] theorem State.unitMoves_fflags (s : State) : (s.unitMoves).fflags = s.fflags := rfl
@[simp] theorem State.unitMoves_frm (s : State) : (s.unitMoves).frm = s.frm := rfl
@[simp] theorem State.unitMoves_fs (s : State) : (s.unitMoves).fs = s.fs := rfl
@[simp] theorem State.unitMoves_resvValid (s : State) : (s.unitMoves).resvValid = s.resvValid := rfl
@[simp] theorem State.unitMoves_resvAddr (s : State) : (s.unitMoves).resvAddr = s.resvAddr := rfl
@[simp] theorem State.unitMoves_mem (s : State) : (s.unitMoves).mem = s.mem := rfl
@[simp] theorem State.unitMoves_map (s : State) : (s.unitMoves).map = Config.mapAfter s.draws := rfl
@[simp] theorem State.unitMoves_unit (s : State) : (s.unitMoves).unit = Config.unitAfter s.draws := rfl
@[simp] theorem State.unitMoves_budget (s : State) : (s.unitMoves).budget = s.budget := rfl
@[simp] theorem State.unitMoves_eventFlag (s : State) : (s.unitMoves).eventFlag = s.eventFlag := rfl
@[simp] theorem State.unitMoves_trapCall (s : State) : (s.unitMoves).trapCall = s.trapCall := rfl
@[simp] theorem State.unitMoves_draws (s : State) : (s.unitMoves).draws = s.draws := rfl
@[simp] theorem State.unitServes_cfg (s : State) : (s.unitServes).cfg = s.cfg := rfl
@[simp] theorem State.unitServes_ftable (s : State) : (s.unitServes).ftable = s.ftable := rfl
@[simp] theorem State.unitServes_ctable (s : State) : (s.unitServes).ctable = s.ctable := rfl
@[simp] theorem State.unitServes_x (s : State) : (s.unitServes).x = s.x := rfl
@[simp] theorem State.unitServes_pc (s : State) : (s.unitServes).pc = s.pc := rfl
@[simp] theorem State.unitServes_f (s : State) : (s.unitServes).f = s.f := rfl
@[simp] theorem State.unitServes_fflags (s : State) : (s.unitServes).fflags = s.fflags := rfl
@[simp] theorem State.unitServes_frm (s : State) : (s.unitServes).frm = s.frm := rfl
@[simp] theorem State.unitServes_fs (s : State) : (s.unitServes).fs = Config.fsAfter s.draws := rfl
@[simp] theorem State.unitServes_resvValid (s : State) : (s.unitServes).resvValid = s.resvValid := rfl
@[simp] theorem State.unitServes_resvAddr (s : State) : (s.unitServes).resvAddr = s.resvAddr := rfl
@[simp] theorem State.unitServes_mem (s : State) : (s.unitServes).mem = s.mem := rfl
@[simp] theorem State.unitServes_map (s : State) : (s.unitServes).map = Config.mapAfter s.draws := rfl
@[simp] theorem State.unitServes_unit (s : State) : (s.unitServes).unit = Config.unitAfter s.draws := rfl
@[simp] theorem State.unitServes_budget (s : State) : (s.unitServes).budget = s.budget := rfl
@[simp] theorem State.unitServes_eventFlag (s : State) : (s.unitServes).eventFlag = s.eventFlag := rfl
@[simp] theorem State.unitServes_trapCall (s : State) : (s.unitServes).trapCall = s.trapCall := rfl
@[simp] theorem State.unitServes_draws (s : State) : (s.unitServes).draws = s.draws := rfl

/-! ## raise -/

@[simp] theorem State.raise_cfg (s : State) (c : Cause) (tval : Word) : (s.raise c tval).cfg = s.cfg := by unfold State.raise; split <;> rfl
@[simp] theorem State.raise_ftable (s : State) (c : Cause) (tval : Word) : (s.raise c tval).ftable = s.ftable := by unfold State.raise; split <;> rfl
@[simp] theorem State.raise_ctable (s : State) (c : Cause) (tval : Word) : (s.raise c tval).ctable = s.ctable := by unfold State.raise; split <;> rfl
@[simp] theorem State.raise_x (s : State) (c : Cause) (tval : Word) : (s.raise c tval).x = s.x := by unfold State.raise; split <;> rfl
@[simp] theorem State.raise_f (s : State) (c : Cause) (tval : Word) : (s.raise c tval).f = s.f := by unfold State.raise; split <;> rfl
@[simp] theorem State.raise_fflags (s : State) (c : Cause) (tval : Word) : (s.raise c tval).fflags = s.fflags := by unfold State.raise; split <;> rfl
@[simp] theorem State.raise_frm (s : State) (c : Cause) (tval : Word) : (s.raise c tval).frm = s.frm := by unfold State.raise; split <;> rfl
@[simp] theorem State.raise_fs (s : State) (c : Cause) (tval : Word) : (s.raise c tval).fs = s.fs := by unfold State.raise; split <;> rfl
@[simp] theorem State.raise_resvValid (s : State) (c : Cause) (tval : Word) : (s.raise c tval).resvValid = s.resvValid := by unfold State.raise; split <;> rfl
@[simp] theorem State.raise_resvAddr (s : State) (c : Cause) (tval : Word) : (s.raise c tval).resvAddr = s.resvAddr := by unfold State.raise; split <;> rfl
@[simp] theorem State.raise_mem (s : State) (c : Cause) (tval : Word) : (s.raise c tval).mem = s.mem := by unfold State.raise; split <;> rfl
@[simp] theorem State.raise_budget (s : State) (c : Cause) (tval : Word) : (s.raise c tval).budget = s.budget := by unfold State.raise; split <;> rfl
@[simp] theorem State.raise_eventFlag (s : State) (c : Cause) (tval : Word) : (s.raise c tval).eventFlag = s.eventFlag := by unfold State.raise; split <;> rfl
@[simp] theorem State.raise_trapCall (s : State) (c : Cause) (tval : Word) : (s.raise c tval).trapCall = some ⟨c, tval, s.pc⟩ := by unfold State.raise; split <;> rfl
@[simp] theorem State.raise_draws (s : State) (c : Cause) (tval : Word) : (s.raise c tval).draws = s.draws := by unfold State.raise; split <;> rfl

/-! ## illegal -/

@[simp] theorem State.illegal_cfg (s : State) (i : Instr) : (s.illegal i).cfg = s.cfg := by unfold State.illegal; simp
@[simp] theorem State.illegal_ftable (s : State) (i : Instr) : (s.illegal i).ftable = s.ftable := by unfold State.illegal; simp
@[simp] theorem State.illegal_ctable (s : State) (i : Instr) : (s.illegal i).ctable = s.ctable := by unfold State.illegal; simp
@[simp] theorem State.illegal_x (s : State) (i : Instr) : (s.illegal i).x = s.x := by unfold State.illegal; simp
@[simp] theorem State.illegal_f (s : State) (i : Instr) : (s.illegal i).f = s.f := by unfold State.illegal; simp
@[simp] theorem State.illegal_fflags (s : State) (i : Instr) : (s.illegal i).fflags = s.fflags := by unfold State.illegal; simp
@[simp] theorem State.illegal_frm (s : State) (i : Instr) : (s.illegal i).frm = s.frm := by unfold State.illegal; simp
@[simp] theorem State.illegal_fs (s : State) (i : Instr) : (s.illegal i).fs = s.fs := by unfold State.illegal; simp
@[simp] theorem State.illegal_resvValid (s : State) (i : Instr) : (s.illegal i).resvValid = s.resvValid := by unfold State.illegal; simp
@[simp] theorem State.illegal_resvAddr (s : State) (i : Instr) : (s.illegal i).resvAddr = s.resvAddr := by unfold State.illegal; simp
@[simp] theorem State.illegal_mem (s : State) (i : Instr) : (s.illegal i).mem = s.mem := by unfold State.illegal; simp
@[simp] theorem State.illegal_budget (s : State) (i : Instr) : (s.illegal i).budget = s.budget := by unfold State.illegal; simp
@[simp] theorem State.illegal_eventFlag (s : State) (i : Instr) : (s.illegal i).eventFlag = s.eventFlag := by unfold State.illegal; simp
@[simp] theorem State.illegal_trapCall (s : State) (i : Instr) : (s.illegal i).trapCall = some ⟨.illegalInstruction, (encode i).bits.setWidth 64, s.pc⟩ := by unfold State.illegal; simp
@[simp] theorem State.illegal_draws (s : State) (i : Instr) : (s.illegal i).draws = s.draws := by unfold State.illegal; simp

/-! ## privAfter -/

@[simp] theorem State.privAfter_cfg (s : State) (k : PrivKind) : (s.privAfter k).cfg = s.cfg := by unfold State.privAfter; split <;> rfl
@[simp] theorem State.privAfter_ftable (s : State) (k : PrivKind) : (s.privAfter k).ftable = s.ftable := by unfold State.privAfter; split <;> rfl
@[simp] theorem State.privAfter_ctable (s : State) (k : PrivKind) : (s.privAfter k).ctable = s.ctable := by unfold State.privAfter; split <;> rfl
@[simp] theorem State.privAfter_x (s : State) (k : PrivKind) : (s.privAfter k).x = s.x := by unfold State.privAfter; split <;> rfl
@[simp] theorem State.privAfter_pc (s : State) (k : PrivKind) : (s.privAfter k).pc = s.pc := by unfold State.privAfter; split <;> rfl
@[simp] theorem State.privAfter_f (s : State) (k : PrivKind) : (s.privAfter k).f = s.f := by unfold State.privAfter; split <;> rfl
@[simp] theorem State.privAfter_fflags (s : State) (k : PrivKind) : (s.privAfter k).fflags = s.fflags := by unfold State.privAfter; split <;> rfl
@[simp] theorem State.privAfter_frm (s : State) (k : PrivKind) : (s.privAfter k).frm = s.frm := by unfold State.privAfter; split <;> rfl
@[simp] theorem State.privAfter_resvValid (s : State) (k : PrivKind) : (s.privAfter k).resvValid = s.resvValid := by unfold State.privAfter; split <;> rfl
@[simp] theorem State.privAfter_resvAddr (s : State) (k : PrivKind) : (s.privAfter k).resvAddr = s.resvAddr := by unfold State.privAfter; split <;> rfl
@[simp] theorem State.privAfter_mem (s : State) (k : PrivKind) : (s.privAfter k).mem = s.mem := by unfold State.privAfter; split <;> rfl
@[simp] theorem State.privAfter_budget (s : State) (k : PrivKind) : (s.privAfter k).budget = s.budget := by unfold State.privAfter; split <;> rfl
@[simp] theorem State.privAfter_eventFlag (s : State) (k : PrivKind) : (s.privAfter k).eventFlag = s.eventFlag := by unfold State.privAfter; split <;> rfl
@[simp] theorem State.privAfter_trapCall (s : State) (k : PrivKind) : (s.privAfter k).trapCall = s.trapCall := by unfold State.privAfter; split <;> rfl
@[simp] theorem State.privAfter_draws (s : State) (k : PrivKind) : (s.privAfter k).draws = s.draws := by unfold State.privAfter; split <;> rfl

/-! ## begin -/

@[simp] theorem State.begin_cfg (s : State) : (s.begin).cfg = s.cfg := rfl
@[simp] theorem State.begin_ftable (s : State) : (s.begin).ftable = s.ftable := rfl
@[simp] theorem State.begin_ctable (s : State) : (s.begin).ctable = s.ctable := rfl
@[simp] theorem State.begin_x (s : State) : (s.begin).x = s.x := rfl
@[simp] theorem State.begin_pc (s : State) : (s.begin).pc = s.pc := rfl
@[simp] theorem State.begin_f (s : State) : (s.begin).f = s.f := rfl
@[simp] theorem State.begin_fflags (s : State) : (s.begin).fflags = s.fflags := rfl
@[simp] theorem State.begin_frm (s : State) : (s.begin).frm = s.frm := rfl
@[simp] theorem State.begin_fs (s : State) : (s.begin).fs = s.fs := rfl
@[simp] theorem State.begin_resvValid (s : State) : (s.begin).resvValid = s.resvValid := rfl
@[simp] theorem State.begin_resvAddr (s : State) : (s.begin).resvAddr = s.resvAddr := rfl
@[simp] theorem State.begin_mem (s : State) : (s.begin).mem = s.mem := rfl
@[simp] theorem State.begin_map (s : State) : (s.begin).map = s.map := rfl
@[simp] theorem State.begin_unit (s : State) : (s.begin).unit = s.unit := rfl
@[simp] theorem State.begin_budget (s : State) : (s.begin).budget = s.budget.map (· - 1) := rfl
@[simp] theorem State.begin_eventFlag (s : State) : (s.begin).eventFlag = s.eventFlag := rfl
@[simp] theorem State.begin_trapCall (s : State) : (s.begin).trapCall = none := rfl
@[simp] theorem State.begin_draws (s : State) : (s.begin).draws = s.draws + 1 := rfl

/-! ## withFetchWord -/

@[simp] theorem State.withFetchWord_cfg (s : State) (nbits w : Nat) : (s.withFetchWord nbits w).cfg = s.cfg := rfl
@[simp] theorem State.withFetchWord_ftable (s : State) (nbits w : Nat) : (s.withFetchWord nbits w).ftable = s.ftable := rfl
@[simp] theorem State.withFetchWord_ctable (s : State) (nbits w : Nat) : (s.withFetchWord nbits w).ctable = s.ctable := rfl
@[simp] theorem State.withFetchWord_x (s : State) (nbits w : Nat) : (s.withFetchWord nbits w).x = s.x := rfl
@[simp] theorem State.withFetchWord_pc (s : State) (nbits w : Nat) : (s.withFetchWord nbits w).pc = s.pc := rfl
@[simp] theorem State.withFetchWord_f (s : State) (nbits w : Nat) : (s.withFetchWord nbits w).f = s.f := rfl
@[simp] theorem State.withFetchWord_fflags (s : State) (nbits w : Nat) : (s.withFetchWord nbits w).fflags = s.fflags := rfl
@[simp] theorem State.withFetchWord_frm (s : State) (nbits w : Nat) : (s.withFetchWord nbits w).frm = s.frm := rfl
@[simp] theorem State.withFetchWord_fs (s : State) (nbits w : Nat) : (s.withFetchWord nbits w).fs = s.fs := rfl
@[simp] theorem State.withFetchWord_resvValid (s : State) (nbits w : Nat) : (s.withFetchWord nbits w).resvValid = s.resvValid := rfl
@[simp] theorem State.withFetchWord_resvAddr (s : State) (nbits w : Nat) : (s.withFetchWord nbits w).resvAddr = s.resvAddr := rfl
@[simp] theorem State.withFetchWord_map (s : State) (nbits w : Nat) : (s.withFetchWord nbits w).map = s.map := rfl
@[simp] theorem State.withFetchWord_unit (s : State) (nbits w : Nat) : (s.withFetchWord nbits w).unit = s.unit := rfl
@[simp] theorem State.withFetchWord_budget (s : State) (nbits w : Nat) : (s.withFetchWord nbits w).budget = s.budget := rfl
@[simp] theorem State.withFetchWord_eventFlag (s : State) (nbits w : Nat) : (s.withFetchWord nbits w).eventFlag = s.eventFlag := rfl
@[simp] theorem State.withFetchWord_trapCall (s : State) (nbits w : Nat) : (s.withFetchWord nbits w).trapCall = s.trapCall := rfl
@[simp] theorem State.withFetchWord_draws (s : State) (nbits w : Nat) : (s.withFetchWord nbits w).draws = s.draws := rfl

end Sys2Proof.Machine
end

