-- ==== Sys2Proof/Laws/Memory.lean ====
section
/-! SUPPORT. Memory: reads after writes, and that every operation on it keeps the canonical form. -/

namespace Sys2Proof.Machine

/-- Every address a memory lists is above `a`. -/
abbrev Memory.Above (a : Nat) (m : Memory) : Prop := ∀ c ∈ m, a < c.1

theorem Memory.wf_cons (a : Nat) (b : Byte) (m : Memory) :
    Memory.wf ((a, b) :: m) = true ↔ b ≠ Memory.unlisted ∧ Memory.Above a m ∧ Memory.wf m = true := by
  simp [Memory.wf, Memory.Above, and_assoc]

@[simp] theorem Memory.wf_nil : Memory.wf [] = true := rfl

theorem Memory.read_of_above (a : Nat) (m : Memory) (h : Memory.Above a m) : m.read a = Memory.unlisted := by
  induction m with
  | nil => rfl
  | cons c m ih =>
    obtain ⟨k, b⟩ := c
    have hk : a < k := h (k, b) (by simp)
    have : k ≠ a := by omega
    simp only [Memory.read, this, if_false]
    exact ih fun c hc => h c (by simp [hc])

theorem Memory.above_write (k a : Nat) (v : Byte) (m : Memory) (hk : k < a) (h : Memory.Above k m) :
    Memory.Above k (m.write a v) := by
  induction m with
  | nil => unfold Memory.write; split <;> simp [Memory.Above, hk]
  | cons c m ih =>
    obtain ⟨j, b⟩ := c
    have hj : k < j := h (j, b) (by simp)
    have hm : Memory.Above k m := fun c hc => h c (by simp [hc])
    have := ih hm
    unfold Memory.write
    split
    · split
      · exact h
      · intro c hc
        rcases List.mem_cons.1 hc with rfl | hc
        · exact hk
        · exact h c hc
    · split
      · split
        · exact hm
        · intro c hc
          rcases List.mem_cons.1 hc with rfl | hc
          · exact hk
          · exact hm c hc
      · intro c hc
        rcases List.mem_cons.1 hc with rfl | hc
        · exact hj
        · exact this c hc

/-- A write keeps the canonical form. -/
theorem Memory.wf_write (m : Memory) (a : Nat) (v : Byte) (h : m.wf = true) : (m.write a v).wf = true := by
  induction m with
  | nil =>
    unfold Memory.write
    split
    · rfl
    · rename_i hv; exact (Memory.wf_cons _ _ _).2 ⟨hv, by simp [Memory.Above], rfl⟩
  | cons c m ih =>
    obtain ⟨k, b⟩ := c
    obtain ⟨hb, ha, hm⟩ := (Memory.wf_cons _ _ _).1 h
    unfold Memory.write
    split
    · rename_i hak
      split
      · exact h
      · rename_i hv
        refine (Memory.wf_cons _ _ _).2 ⟨hv, ?_, h⟩
        intro c hc
        rcases List.mem_cons.1 hc with rfl | hc
        · exact hak
        · exact Nat.lt_trans hak (ha c hc)
    · split
      · rename_i hak hak2
        subst hak2
        split
        · exact hm
        · rename_i hv; exact (Memory.wf_cons _ _ _).2 ⟨hv, ha, hm⟩
      · rename_i h1 h2
        exact (Memory.wf_cons _ _ _).2 ⟨hb, Memory.above_write _ _ _ _ (by omega) ha, ih hm⟩

/-- A read of the address written gives the value written. -/
theorem Memory.read_write_same (m : Memory) (a : Nat) (v : Byte) (h : m.wf = true) : (m.write a v).read a = v := by
  induction m with
  | nil => unfold Memory.write; split <;> simp_all [Memory.read]
  | cons c m ih =>
    obtain ⟨k, b⟩ := c
    obtain ⟨-, ha, hm⟩ := (Memory.wf_cons _ _ _).1 h
    unfold Memory.write
    split
    · rename_i hak
      split
      · rename_i hv
        rw [hv]
        refine Memory.read_of_above _ _ fun c hc => ?_
        rcases List.mem_cons.1 hc with rfl | hc
        · exact hak
        · exact Nat.lt_trans hak (ha c hc)
      · simp [Memory.read]
    · split
      · rename_i _ hak
        subst hak
        split
        · rename_i hv; rw [hv]; exact Memory.read_of_above _ _ ha
        · simp [Memory.read]
      · rename_i h1 h2
        have : k ≠ a := fun e => h2 e.symm
        simp [Memory.read, this, ih hm]

/-- A write leaves every other address alone. -/
theorem Memory.read_write_other (m : Memory) (a a' : Nat) (v : Byte) (h : a' ≠ a) :
    (m.write a v).read a' = m.read a' := by
  induction m with
  | nil => unfold Memory.write; split <;> simp [Memory.read, h.symm]
  | cons c m ih =>
    obtain ⟨k, b⟩ := c
    unfold Memory.write
    split
    · split <;> simp [Memory.read, h.symm]
    · split
      · rename_i _ hak
        subst hak
        split <;> simp [Memory.read, h.symm]
      · simp [Memory.read, ih]

/-- A canonical memory lists an address exactly when it reads as something else than an unlisted one. -/
theorem Memory.eq_of_read (m₁ m₂ : Memory) (h₁ : m₁.wf = true) (h₂ : m₂.wf = true)
    (h : ∀ a, m₁.read a = m₂.read a) : m₁ = m₂ := by
  induction m₁ generalizing m₂ with
  | nil =>
    cases m₂ with
    | nil => rfl
    | cons c m =>
      obtain ⟨k, b⟩ := c
      obtain ⟨hb, -, -⟩ := (Memory.wf_cons _ _ _).1 h₂
      exact absurd (by simpa [Memory.read] using (h k).symm) hb
  | cons c m ih =>
    obtain ⟨k, b⟩ := c
    obtain ⟨hb, ha, hm⟩ := (Memory.wf_cons _ _ _).1 h₁
    cases m₂ with
    | nil => exact absurd (by simpa [Memory.read] using h k) hb
    | cons d n =>
      obtain ⟨j, e⟩ := d
      obtain ⟨he, hc, hn⟩ := (Memory.wf_cons _ _ _).1 h₂
      have hkj : k = j := by
        rcases Nat.lt_trichotomy k j with hlt | heq | hgt
        · have hab : Memory.Above k ((j, e) :: n) := fun c hc' => by
            rcases List.mem_cons.1 hc' with rfl | hc'
            · exact hlt
            · exact Nat.lt_trans hlt (hc c hc')
          have := h k
          rw [Memory.read_of_above _ _ hab] at this
          exact absurd (by simpa [Memory.read] using this) hb
        · exact heq
        · have hab : Memory.Above j ((k, b) :: m) := fun c hc' => by
            rcases List.mem_cons.1 hc' with rfl | hc'
            · exact hgt
            · exact Nat.lt_trans hgt (ha c hc')
          have := h j
          rw [Memory.read_of_above _ _ hab] at this
          exact absurd (by simpa [Memory.read] using this.symm) he
      subst hkj
      have hbe : b = e := by simpa [Memory.read] using h k
      subst hbe
      refine congrArg _ (ih n hm hn fun a => ?_)
      by_cases hak : k = a
      · subst hak; rw [Memory.read_of_above _ _ ha, Memory.read_of_above _ _ hc]
      · simpa [Memory.read, hak] using h a

/-! ## Writes of several bytes -/

theorem storeBytes_wf (m : Memory) (as : List Nat) (bs : List Byte) (h : m.wf = true) :
    (storeBytes m as bs).wf = true := by
  induction as generalizing m bs with
  | nil => simpa [storeBytes] using h
  | cons a as ih =>
    cases bs with
    | nil => simpa [storeBytes] using h
    | cons b bs => exact ih _ _ (Memory.wf_write _ _ _ h)

theorem storeBytes_read_other (m : Memory) (as : List Nat) (bs : List Byte) (a : Nat) (h : a ∉ as) :
    (storeBytes m as bs).read a = m.read a := by
  induction as generalizing m bs with
  | nil => simp [storeBytes]
  | cons b as ih =>
    cases bs with
    | nil => simp [storeBytes]
    | cons c bs =>
      simp only [List.mem_cons, not_or] at h
      rw [storeBytes, ih _ _ h.2, Memory.read_write_other _ _ _ _ h.1]

theorem State.writeByte_mem (s : State) (a : Nat) (v : Byte) :
    (s.writeByte a v).mem = if s.verdict .write a = .ram then s.mem.write a v else s.mem := by
  unfold State.writeByte
  split <;> simp_all

theorem State.writeByte_frame (s : State) (a : Nat) (v : Byte) :
    s.writeByte a v = { s with mem := (s.writeByte a v).mem } := by
  unfold State.writeByte; split <;> rfl

theorem State.writeByte_wf (s : State) (a : Nat) (v : Byte) (h : s.mem.wf = true) :
    (s.writeByte a v).mem.wf = true := by
  rw [State.writeByte_mem]; split
  · exact Memory.wf_write _ _ _ h
  · exact h

/-- A write of several bytes changes nothing but memory. -/
theorem State.writeLE_frame (s : State) (as : List Nat) (v : Nat) :
    s.writeLE as v = { s with mem := (s.writeLE as v).mem } := by
  induction as generalizing s v with
  | nil => rfl
  | cons a as ih =>
    rw [State.writeLE, ih]
    rw [State.writeByte_frame]

theorem State.writeLE_wf (s : State) (as : List Nat) (v : Nat) (h : s.mem.wf = true) :
    (s.writeLE as v).mem.wf = true := by
  induction as generalizing s v with
  | nil => exact h
  | cons a as ih => exact ih _ _ (State.writeByte_wf _ _ _ h)

/-- What a write of several bytes does not touch. -/
theorem State.writeLE_read_other (s : State) (as : List Nat) (v : Nat) (a : Nat) (h : a ∉ as) :
    (s.writeLE as v).mem.read a = s.mem.read a := by
  induction as generalizing s v with
  | nil => rfl
  | cons b as ih =>
    simp only [List.mem_cons, not_or] at h
    rw [State.writeLE, ih _ _ h.2, State.writeByte_mem]
    split
    · exact Memory.read_write_other _ _ _ _ h.1
    · rfl

/-- The k-th byte a write of several bytes leaves in RAM. -/
theorem State.writeLE_read (s : State) (as : List Nat) (v : Nat) (k : Nat) (hk : k < as.length) (hd : as.Nodup)
    (hw : s.mem.wf = true) (hr : s.verdict .write as[k] = .ram) :
    (s.writeLE as v).mem.read as[k] = BitVec.ofNat 8 (v / 256 ^ k) := by
  induction as generalizing s v k with
  | nil => simp at hk
  | cons b as ih =>
    obtain ⟨hb, hd⟩ := List.nodup_cons.1 hd
    cases k with
    | zero =>
      simp only [List.getElem_cons_zero] at hr ⊢
      rw [State.writeLE, State.writeLE_read_other _ _ _ _ hb, State.writeByte_mem, if_pos hr,
        Memory.read_write_same _ _ _ hw]
      simp
    | succ k =>
      simp only [List.getElem_cons_succ] at hr ⊢
      have hv : (s.writeByte b (BitVec.ofNat 8 v)).verdict .write (as[k]'(by simpa using hk)) = .ram := by
        rw [State.writeByte_frame]; exact hr
      rw [State.writeLE, ih _ _ k (by simpa using hk) hd (State.writeByte_wf _ _ _ hw) hv]
      congr 1
      rw [Nat.div_div_eq_div_mul, Nat.pow_succ, Nat.mul_comm]

/-- MemWrite changes memory and the reservation, nothing else. -/
theorem State.memWrite_frame (s t : State) {w : Nat} (a : BitVec w) (n : Nat) (v : BitVec (8 * n))
    (h : s.memWrite a n v = .ok t) : t = { s with mem := t.mem, resvValid := t.resvValid } := by
  unfold State.memWrite at h
  split at h
  · cases h
  · obtain rfl := Except.ok.inj h
    rw [State.writeLE_frame]; rfl

/-- The fields MemWrite leaves alone, for a rewrite by a known successful write. -/
theorem State.memWrite_fields {s t : State} {w n : Nat} {a : BitVec w} {v : BitVec (8 * n)}
    (h : s.memWrite a n v = .ok t) :
    t.cfg = s.cfg ∧ t.ftable = s.ftable ∧ t.ctable = s.ctable ∧ t.x = s.x ∧ t.pc = s.pc ∧ t.f = s.f ∧
    t.fflags = s.fflags ∧ t.frm = s.frm ∧ t.fs = s.fs ∧ t.resvAddr = s.resvAddr ∧ t.map = s.map ∧ t.unit = s.unit ∧
    t.budget = s.budget ∧ t.eventFlag = s.eventFlag ∧ t.trapCall = s.trapCall ∧ t.draws = s.draws := by
  rw [State.memWrite_frame _ _ _ _ _ h]; simp

theorem State.memWrite_wf (s t : State) {w : Nat} (a : BitVec w) (n : Nat) (v : BitVec (8 * n))
    (h : s.memWrite a n v = .ok t) (hw : s.mem.wf = true) : t.mem.wf = true := by
  unfold State.memWrite at h
  split at h
  · cases h
  · obtain rfl := Except.ok.inj h
    simpa using State.writeLE_wf _ _ _ hw

theorem State.withFetchWord_wf (s : State) (nbits w : Nat) (h : s.mem.wf = true) :
    (s.withFetchWord nbits w).mem.wf = true := storeBytes_wf _ _ _ h

/-- Memory at reset is canonical. -/
theorem State.reset_mem_wf : State.reset.mem.wf = true := rfl

end Sys2Proof.Machine
end

