-- ==== Sys2Proof/Laws/Shared.lean ====
section
/-! SUPPORT. What each shared operation can do, said once: later proofs cite these lemmas instead of unfolding it. -/

namespace Sys2Proof.Machine

/-! ## Registers -/

@[simp] theorem State.rdX_zero (s : State) (w : Nat) : s.rdX w 0#5 = 0 := rfl

theorem State.rdX_of_ne (s : State) (w : Nat) (i : Reg) (h : i ≠ 0) :
    s.rdX w i = (s.x[i.toNat]'i.isLt).setWidth w := if_neg h

@[simp] theorem State.wrX_zero (s : State) {w : Nat} (v : BitVec w) : s.wrX 0#5 v = s := rfl

/-- A register other than the one written reads as before. -/
theorem State.rdX_wrX_other (s : State) (w' : Nat) (i j : Reg) {w : Nat} (v : BitVec w) (h : j ≠ i) :
    (s.wrX i v).rdX w' j = s.rdX w' j := by
  have hij : i.toNat ≠ j.toNat := fun e => h (BitVec.eq_of_toNat_eq e.symm)
  unfold State.wrX
  split
  · rfl
  · simp only [State.rdX]
    split
    · rfl
    · rw [Vector.getElem_set_ne _ _ hij]

/-- A register reads as what was written to it, for x1 to x31. -/
theorem State.rdX_wrX_same (s : State) (i : Reg) {w : Nat} (v : BitVec w) (hw : w ≤ 64) (h : i ≠ 0) :
    (s.wrX i v).rdX w i = v := by
  simp only [State.wrX, State.rdX, h, if_false, Vector.getElem_set_self]
  apply BitVec.eq_of_toNat_eq
  have h1 := v.isLt
  have h2 : 2 ^ w ≤ 2 ^ 64 := Nat.pow_le_pow_right (by decide) hw
  rw [BitVec.toNat_setWidth, BitVec.toNat_setWidth, Nat.mod_eq_of_lt (Nat.lt_of_lt_of_le h1 h2), Nat.mod_eq_of_lt h1]

/-- The stored slot of x0 is never written (10_state.md R44). -/
@[simp] theorem State.wrX_x_zero (s : State) (i : Reg) {w : Nat} (v : BitVec w) : (s.wrX i v).x[0] = s.x[0] := by
  unfold State.wrX
  split
  · rfl
  · rename_i h
    have : i.toNat ≠ 0 := fun e => h (BitVec.eq_of_toNat_eq e)
    simp [this]

@[simp] theorem State.rdF_wrF_same (s : State) (i : Reg) (v : Word) : (s.wrF i v).rdF i = v := by
  simp [State.rdF, State.wrF]

theorem State.rdF_wrF_other (s : State) (i j : Reg) (v : Word) (h : j ≠ i) : (s.wrF i v).rdF j = s.rdF j := by
  have hij : i.toNat ≠ j.toNat := fun e => h (BitVec.eq_of_toNat_eq e.symm)
  simp only [State.rdF, State.wrF]
  rw [Vector.getElem_set_ne _ _ hij]

/-- XLEN is 32 or 64. -/
theorem State.w_le (s : State) : s.w ≤ 64 := by unfold State.w; cases s.cfg.xlen <;> decide

theorem State.w_pos (s : State) : 32 ≤ s.w := by unfold State.w; cases s.cfg.xlen <;> decide

/-- Reading through fields that are equal gives the same register. -/
theorem State.rdX_congr (s t : State) (w : Nat) (i : Reg) (h : t.x = s.x) : t.rdX w i = s.rdX w i := by
  simp [State.rdX, h]

theorem State.rdF_congr (s t : State) (i : Reg) (h : t.f = s.f) : t.rdF i = s.rdF i := by simp [State.rdF, h]

/-- The pc after the default advance. -/
theorem State.advance_pc_toNat (s : State) (len : Nat) : (s.advance len).pc.toNat = (s.pc.toNat + len) % 2 ^ s.w := by
  have h2 : 2 ^ s.w ≤ 2 ^ 64 := Nat.pow_le_pow_right (by decide) s.w_le
  have h3 := (s.nextPc s.w len).isLt
  rw [State.advance_pc, BitVec.toNat_setWidth, Nat.mod_eq_of_lt (Nat.lt_of_lt_of_le h3 h2)]
  simp [State.nextPc, State.rdPc, BitVec.toNat_add]

/-! ## Traps -/

/-- A trap changes the pc, the external unit, the memory map of an unspecified unit and the record of the call, and
nothing else. -/
theorem State.raise_frame (s : State) (c : Cause) (tval : Word) :
    s.raise c tval = { s with pc := (s.raise c tval).pc, unit := (s.raise c tval).unit, map := (s.raise c tval).map
                              trapCall := some ⟨c, tval, s.pc⟩ } := by
  unfold State.raise; split <;> rfl

/-- A trap the standard unit takes. -/
theorem State.raise_standard (s : State) (c : Cause) (tval : Word) (h : s.cfg.unitKind = .standard) :
    s.raise c tval =
      { s with unit := unitException s.unit c.code tval s.pc
               pc := ((exceptionTarget s.unit c.code).setWidth s.w).setWidth 64
               trapCall := some ⟨c, tval, s.pc⟩ } := by
  unfold State.raise; rw [h]

/-! ## Checks around an instruction -/

theorem State.whenEnabled_on (s t : State) (i : Instr) (hw : i.wf = true) (he : i.enabled s.cfg = true) :
    s.whenEnabled i t = t := by simp [State.whenEnabled, hw, he]

theorem State.whenEnabled_off (s t : State) (i : Instr) (h : (i.wf && i.enabled s.cfg) = false) :
    s.whenEnabled i t = s.illegal i := by unfold State.whenEnabled; rw [h]; rfl

theorem State.whenEnabled_cases (s t : State) (i : Instr) :
    (i.wf = true ∧ i.enabled s.cfg = true ∧ s.whenEnabled i t = t) ∨ s.whenEnabled i t = s.illegal i := by
  unfold State.whenEnabled
  split
  · rename_i h; simp only [Bool.and_eq_true] at h; exact .inl ⟨h.1, h.2, rfl⟩
  · exact .inr rfl

theorem State.withRounding_on (s : State) (i : Instr) (rm : BitVec 3) (k : RMode → State) (m : RMode)
    (hw : i.wf = true) (he : i.enabled s.cfg = true) (hm : effectiveRM rm s.frm = some m) :
    s.withRounding i rm k = k m := by rw [State.withRounding, State.whenEnabled_on _ _ _ hw he, hm]

theorem State.withRounding_bad (s : State) (i : Instr) (rm : BitVec 3) (k : RMode → State)
    (hm : effectiveRM rm s.frm = none) : s.withRounding i rm k = s.illegal i := by
  unfold State.withRounding State.whenEnabled; rw [hm]; split <;> rfl

/-! ## Memory accesses -/

/-- A load traps for alignment, traps for a port failure, or hands its bytes on. -/
theorem State.load_cases (s : State) {w : Nat} (a : BitVec w) (n : Nat) (k : BitVec (8 * n) → State) :
    (s.misalignedTrap a n = true ∧ s.load a n k = s.raise .loadMisaligned (a.setWidth 64)) ∨
    (s.misalignedTrap a n = false ∧ ∃ f, s.portFault .read (byteAddrs a n) = some f ∧
      s.load a n k = s.raise (faultCause .read f) (a.setWidth 64)) ∨
    (s.misalignedTrap a n = false ∧ s.portFault .read (byteAddrs a n) = none ∧
      s.load a n k = k (BitVec.ofNat (8 * n) (s.readLE .read (byteAddrs a n)))) := by
  unfold State.load State.memRead
  cases hm : s.misalignedTrap a n
  · cases hf : s.portFault .read (byteAddrs a n) with
    | none => exact .inr (.inr ⟨rfl, rfl, rfl⟩)
    | some f => exact .inr (.inl ⟨rfl, f, rfl, rfl⟩)
  · exact .inl ⟨rfl, rfl⟩

/-- A store traps for alignment, traps for a port failure, or writes and advances. -/
theorem State.store_cases (s : State) (len : Nat) {w : Nat} (a : BitVec w) (n : Nat) (v : BitVec (8 * n)) :
    (s.misalignedTrap a n = true ∧ s.store len a n v = s.raise .storeMisaligned (a.setWidth 64)) ∨
    (s.misalignedTrap a n = false ∧ ∃ f, s.portFault .write (byteAddrs a n) = some f ∧
      s.store len a n v = s.raise (faultCause .write f) (a.setWidth 64)) ∨
    (s.misalignedTrap a n = false ∧ s.portFault .write (byteAddrs a n) = none ∧
      s.store len a n v = ((s.writeLE (byteAddrs a n) v.toNat).breakResv (byteAddrs a n)).advance len) := by
  unfold State.store State.memWrite
  cases hm : s.misalignedTrap a n
  · cases hf : s.portFault .write (byteAddrs a n) with
    | none => exact .inr (.inr ⟨rfl, rfl, rfl⟩)
    | some f => exact .inr (.inl ⟨rfl, f, rfl, rfl⟩)
  · exact .inl ⟨rfl, rfl⟩

/-- The addresses of an access, one by one. -/
theorem byteAddrs_length {w : Nat} (a : BitVec w) (n : Nat) : (byteAddrs a n).length = n := by simp [byteAddrs]

theorem byteAddrs_getElem {w : Nat} (a : BitVec w) (n k : Nat) (h : k < (byteAddrs a n).length) :
    (byteAddrs a n)[k] = (a.toNat + k) % 2 ^ w := by simp [byteAddrs, BitVec.toNat_add]

theorem mem_byteAddrs {w : Nat} (a : BitVec w) (n b : Nat) :
    b ∈ byteAddrs a n ↔ ∃ k < n, b = (a.toNat + k) % 2 ^ w := by
  simp only [byteAddrs, List.mem_map, List.mem_range, BitVec.toNat_add, BitVec.toNat_ofNat, Nat.add_mod_mod]
  exact ⟨fun ⟨k, h, e⟩ => ⟨k, h, e.symm⟩, fun ⟨k, h, e⟩ => ⟨k, h, e.symm⟩⟩

/-- The bytes of one access have different addresses. -/
theorem byteAddrs_nodup {w : Nat} (a : BitVec w) (n : Nat) (h : n ≤ 2 ^ w) : (byteAddrs a n).Nodup := by
  refine List.pairwise_iff_getElem.2 fun i j hi hj hij e => ?_
  rw [byteAddrs_length] at hi hj
  rw [byteAddrs_getElem, byteAddrs_getElem] at e
  have := Nat.sub_mod_eq_zero_of_mod_eq e.symm
  rw [Nat.add_sub_add_left, Nat.mod_eq_of_lt (by omega)] at this
  omega

/-- No byte of an access fails exactly when the port does not fail. -/
theorem State.portFault_none (s : State) (k : Access) (as : List Nat) :
    s.portFault k as = none ↔ ∀ a ∈ as, ∀ f, s.verdict k a ≠ .fail f := by
  unfold State.portFault
  rw [List.findSome?_eq_none_iff]
  constructor
  · intro h a ha f hf
    have := h a ha
    rw [hf] at this
    cases this
  · intro h a ha
    have := h a ha
    split
    · rename_i f hf; exact absurd hf (this f)
    · rfl

/-! ## Control transfers -/

theorem State.jumpLink_cases (s : State) (len : Nat) (rd : Reg) (target : BitVec s.w) :
    (s.misalignedTarget target = true ∧ s.jumpLink len rd target = s.raise .instrMisaligned (target.setWidth 64)) ∨
    (s.misalignedTarget target = false ∧ s.jumpLink len rd target = (s.wrX rd (s.nextPc s.w len)).jump target) := by
  unfold State.jumpLink
  cases s.misalignedTarget target
  · exact .inr ⟨rfl, rfl⟩
  · exact .inl ⟨rfl, rfl⟩

theorem State.opBranch_cases (s : State) (len : Nat) (cond : Bool) (off : BitVec s.w) :
    (cond = false ∧ s.opBranch len cond off = s.advance len) ∨
    (cond = true ∧ s.misalignedTarget (s.rdPc s.w + off) = true ∧
      s.opBranch len cond off = s.raise .instrMisaligned ((s.rdPc s.w + off).setWidth 64)) ∨
    (cond = true ∧ s.misalignedTarget (s.rdPc s.w + off) = false ∧
      s.opBranch len cond off = s.jump (s.rdPc s.w + off)) := by
  unfold State.opBranch
  cases cond
  · exact .inl ⟨rfl, rfl⟩
  · cases h : s.misalignedTarget (s.rdPc s.w + off)
    · exact .inr (.inr ⟨rfl, rfl, rfl⟩)
    · exact .inr (.inl ⟨rfl, rfl, rfl⟩)

/-! ## Privileged operations and CSRs -/

theorem State.privileged_cases (s : State) (i : Instr) (k : PrivKind) :
    (s.privAnswer k = .illegal ∧ s.privileged i k = s.illegal i) ∨
    (∃ t, s.privAnswer k = .redirect t ∧ k.isReturn = true ∧ s.privileged i k = (s.privAfter k).jump (t.setWidth s.w)) ∨
    (s.privAnswer k ≠ .illegal ∧ s.privileged i k = (s.privAfter k).advance 4) := by
  unfold State.privileged
  cases s.privAnswer k with
  | illegal => exact .inl ⟨rfl, rfl⟩
  | redirect t =>
    cases hr : k.isReturn
    · exact .inr (.inr ⟨nofun, rfl⟩)
    · exact .inr (.inl ⟨t, rfl, rfl, rfl⟩)
  | proceed => exact .inr (.inr ⟨nofun, rfl⟩)

/-- The standard unit leaves FS and the memory map when it serves PrivOp. -/
theorem State.privAfter_standard (s : State) (k : PrivKind) (h : s.cfg.unitKind = .standard) :
    s.privAfter k = { s with unit := unitPrivAfter s.unit k } := by unfold State.privAfter; rw [h]

/-- An access answered by a unit of which nothing is known. -/
theorem State.csrAccess_unspecified (s : State) {w : Nat} (csr : BitVec 12) (newOf : BitVec w → BitVec w) (r d : Bool)
    (hs : s.cfg.unitKind = .unspecified) :
    s.csrAccess csr newOf r d =
      match Config.csrAnswer s.draws csr with
      | none => none
      | some old => some (if r then old.setWidth w else 0, s.unitServes) := by
  unfold State.csrAccess; cases Config.csrAnswer s.draws csr <;> simp [hs]

/-- A permitted access to a CSR the standard unit alone knows. -/
theorem State.csrAccess_unknown (s : State) {w : Nat} (csr : BitVec 12) (newOf : BitVec w → BitVec w) (r d : Bool)
    (hs : s.cfg.unitKind = .standard) (hf : csrForbidden s.unit csr d = false)
    (hn : unitCsrRead s.cfg s.fs s.unit csr = none) :
    s.csrAccess csr newOf r d =
      match Config.csrAnswer s.draws csr with
      | none => none
      | some old => some (if r then old.setWidth w else 0, s) := by
  unfold State.csrAccess; cases Config.csrAnswer s.draws csr <;> simp [hs, hf, hn]

/-- A CSR access of the external unit is refused, or changes at most the unit, FS and the memory map. -/
theorem State.csrAccess_frame (s t : State) {w : Nat} (csr : BitVec 12) (newOf : BitVec w → BitVec w) (r d : Bool)
    (old : BitVec w) (h : s.csrAccess csr newOf r d = some (old, t)) :
    t = { s with unit := t.unit, fs := t.fs, map := t.map } := by
  unfold State.csrAccess at h
  split at h
  · split at h
    · cases h
    · cases h; rfl
  · split at h
    · cases h
    · split at h
      · cases h; split <;> rfl
      · split at h
        · cases h
        · cases h; rfl

end Sys2Proof.Machine
end

