-- ==== Sys2Proof/Laws/Effect.lean ====
section
/-! SUPPORT. Everything an instruction can do to the state, said once: `exec_effect`. A statement about all instructions
is a case analysis on `Effect`, with no unfolding of `exec`. -/

namespace Sys2Proof.Machine

/-- The kinds of instruction, by what they may change. -/
inductive Kind where
  | compute
  | load
  | fpLoad
  | store
  | lr
  | sc
  | amo
  | jump
  | branch
  | fence
  | csr
  | ret
  | wait
  | call
  | fpToX
  | fp
  deriving DecidableEq, Repr

/-- The kind of an instruction. -/
def kindOf : Instr → Kind
  | .lui _ _ | .auipc _ _ | .addi _ _ _ | .slti _ _ _ | .sltiu _ _ _ | .xori _ _ _ | .ori _ _ _ | .andi _ _ _
  | .slli _ _ _ | .srli _ _ _ | .srai _ _ _ | .add _ _ _ | .sub _ _ _ | .sll _ _ _ | .slt _ _ _ | .sltu _ _ _
  | .xor _ _ _ | .srl _ _ _ | .sra _ _ _ | .or _ _ _ | .and _ _ _ | .addiw _ _ _ | .slliw _ _ _ | .srliw _ _ _
  | .sraiw _ _ _ | .addw _ _ _ | .subw _ _ _ | .sllw _ _ _ | .srlw _ _ _ | .sraw _ _ _ | .mul _ _ _ | .mulh _ _ _
  | .mulhsu _ _ _ | .mulhu _ _ _ | .div _ _ _ | .divu _ _ _ | .rem _ _ _ | .remu _ _ _ | .mulw _ _ _ | .divw _ _ _
  | .divuw _ _ _ | .remw _ _ _ | .remuw _ _ _ | .cAddi4spn _ _ | .cNop _ | .cAddi _ _ | .cAddiw _ _ | .cLi _ _
  | .cAddi16sp _ | .cLui _ _ | .cSrli _ _ | .cSrai _ _ | .cAndi _ _ | .cSub _ _ | .cXor _ _ | .cOr _ _ | .cAnd _ _
  | .cSubw _ _ | .cAddw _ _ | .cSlli _ _ | .cMv _ _ | .cAdd _ _ => .compute
  | .lb _ _ _ | .lh _ _ _ | .lw _ _ _ | .ld _ _ _ | .lbu _ _ _ | .lhu _ _ _ | .lwu _ _ _ | .cLw _ _ _ | .cLd _ _ _
  | .cLwsp _ _ | .cLdsp _ _ => .load
  | .flw _ _ _ | .fld _ _ _ | .cFld _ _ _ | .cFlw _ _ _ | .cFldsp _ _ | .cFlwsp _ _ => .fpLoad
  | .sb _ _ _ | .sh _ _ _ | .sw _ _ _ | .sd _ _ _ | .fsw _ _ _ | .fsd _ _ _ | .cFsd _ _ _ | .cSw _ _ _
  | .cFsw _ _ _ | .cSd _ _ _ | .cFsdsp _ _ | .cSwsp _ _ | .cFswsp _ _ | .cSdsp _ _ => .store
  | .lrW _ _ _ _ | .lrD _ _ _ _ => .lr
  | .scW _ _ _ _ _ | .scD _ _ _ _ _ => .sc
  | .amoaddW _ _ _ _ _ | .amoswapW _ _ _ _ _ | .amoxorW _ _ _ _ _ | .amoorW _ _ _ _ _ | .amoandW _ _ _ _ _
  | .amominW _ _ _ _ _ | .amomaxW _ _ _ _ _ | .amominuW _ _ _ _ _ | .amomaxuW _ _ _ _ _ | .amoaddD _ _ _ _ _
  | .amoswapD _ _ _ _ _ | .amoxorD _ _ _ _ _ | .amoorD _ _ _ _ _ | .amoandD _ _ _ _ _ | .amominD _ _ _ _ _
  | .amomaxD _ _ _ _ _ | .amominuD _ _ _ _ _ | .amomaxuD _ _ _ _ _ => .amo
  | .jal _ _ | .jalr _ _ _ | .cJal _ | .cJ _ | .cJr _ | .cJalr _ => .jump
  | .beq _ _ _ | .bne _ _ _ | .blt _ _ _ | .bge _ _ _ | .bltu _ _ _ | .bgeu _ _ _ | .cBeqz _ _ | .cBnez _ _ => .branch
  | .fence _ _ _ _ _ | .fenceI _ _ _ => .fence
  | .csrrw _ _ _ | .csrrs _ _ _ | .csrrc _ _ _ | .csrrwi _ _ _ | .csrrsi _ _ _ | .csrrci _ _ _ => .csr
  | .sret | .mret => .ret
  | .wfi | .sfenceVma _ _ => .wait
  | .ecall | .ebreak | .cEbreak => .call
  | .feqS _ _ _ | .fltS _ _ _ | .fleS _ _ _ | .fclassS _ _ | .fcvtWS _ _ _ | .fcvtWuS _ _ _ | .fcvtLS _ _ _
  | .fcvtLuS _ _ _ | .fmvXW _ _ | .feqD _ _ _ | .fltD _ _ _ | .fleD _ _ _ | .fclassD _ _ | .fcvtWD _ _ _
  | .fcvtWuD _ _ _ | .fcvtLD _ _ _ | .fcvtLuD _ _ _ | .fmvXD _ _ => .fpToX
  | .fmaddS _ _ _ _ _ | .fmsubS _ _ _ _ _ | .fnmsubS _ _ _ _ _ | .fnmaddS _ _ _ _ _ | .faddS _ _ _ _
  | .fsubS _ _ _ _ | .fmulS _ _ _ _ | .fdivS _ _ _ _ | .fsqrtS _ _ _ | .fsgnjS _ _ _ | .fsgnjnS _ _ _
  | .fsgnjxS _ _ _ | .fminS _ _ _ | .fmaxS _ _ _ | .fcvtSW _ _ _ | .fcvtSWu _ _ _ | .fcvtSL _ _ _ | .fcvtSLu _ _ _
  | .fmvWX _ _ | .fmaddD _ _ _ _ _ | .fmsubD _ _ _ _ _ | .fnmsubD _ _ _ _ _ | .fnmaddD _ _ _ _ _ | .faddD _ _ _ _
  | .fsubD _ _ _ _ | .fmulD _ _ _ _ | .fdivD _ _ _ _ | .fsqrtD _ _ _ | .fsgnjD _ _ _ | .fsgnjnD _ _ _
  | .fsgnjxD _ _ _ | .fminD _ _ _ | .fmaxD _ _ _ | .fcvtDW _ _ _ | .fcvtDWu _ _ _ | .fcvtDL _ _ _ | .fcvtDLu _ _ _
  | .fcvtSD _ _ _ | .fcvtDS _ _ _ | .fmvDX _ _ => .fp

/-- The CSR an instruction names. -/
def csrOf : Instr → Option (BitVec 12)
  | .csrrw _ c _ | .csrrs _ c _ | .csrrc _ c _ | .csrrwi _ c _ | .csrrsi _ c _ | .csrrci _ c _ => some c
  | _ => none

/-- The address and number of the bytes an instruction writes to memory, if it writes any. -/
def storeSite (s : State) : Instr → Option (BitVec s.w × Nat)
  | .sb rs1 _ imm => some (s.effAddr s.w rs1 (imm12 s.w imm), 1)
  | .sh rs1 _ imm => some (s.effAddr s.w rs1 (imm12 s.w imm), 2)
  | .sw rs1 _ imm | .fsw rs1 _ imm => some (s.effAddr s.w rs1 (imm12 s.w imm), 4)
  | .sd rs1 _ imm | .fsd rs1 _ imm => some (s.effAddr s.w rs1 (imm12 s.w imm), 8)
  | .cSw rs1 _ u | .cFsw rs1 _ u => some (s.effAddr s.w (creg rs1) (uimmW s.w u), 4)
  | .cSd rs1 _ u | .cFsd rs1 _ u => some (s.effAddr s.w (creg rs1) (uimmD s.w u), 8)
  | .cSwsp _ u | .cFswsp _ u => some (s.effAddr s.w sp (uimmWsp s.w u), 4)
  | .cSdsp _ u | .cFsdsp _ u => some (s.effAddr s.w sp (uimmDsp s.w u), 8)
  | .scW _ rs1 _ _ _ | .amoswapW _ rs1 _ _ _ | .amoaddW _ rs1 _ _ _ | .amoxorW _ rs1 _ _ _ | .amoandW _ rs1 _ _ _
  | .amoorW _ rs1 _ _ _ | .amominW _ rs1 _ _ _ | .amomaxW _ rs1 _ _ _ | .amominuW _ rs1 _ _ _
  | .amomaxuW _ rs1 _ _ _ => some (s.rdX s.w rs1, 4)
  | .scD _ rs1 _ _ _ | .amoswapD _ rs1 _ _ _ | .amoaddD _ rs1 _ _ _ | .amoxorD _ rs1 _ _ _ | .amoandD _ rs1 _ _ _
  | .amoorD _ rs1 _ _ _ | .amominD _ rs1 _ _ _ | .amomaxD _ rs1 _ _ _ | .amominuD _ rs1 _ _ _
  | .amomaxuD _ rs1 _ _ _ => some (s.rdX s.w rs1, 8)
  | _ => none

/-- The length of an instruction the configuration has. -/
abbrev LenOk (s : State) (len : Nat) : Prop := len = 4 ∨ (len = 2 ∧ s.cfg.cEn = true)

/-- What an instruction can do. -/
inductive Effect (i : Instr) (s : State) : State → Prop where
  | trap (c : Cause) (tval : Word) : Effect i s (s.raise c tval)
  | result (len : Nat) (rd : Reg) {w : Nat} (v : BitVec w) (hw : w = s.w) (hk : kindOf i = .compute ∨ kindOf i = .load ∨ kindOf i = .csr ∨
      kindOf i = .fpToX) (hl : LenOk s len) : Effect i s (s.result len rd v)
  | advance (len : Nat) (hk : kindOf i = .fence ∨ kindOf i = .branch) (hl : LenOk s len) : Effect i s (s.advance len)
  | taken (target : BitVec s.w) (hk : kindOf i = .branch) (ha : s.misalignedTarget target = false) :
      Effect i s (s.jump target)
  | jump (len : Nat) (rd : Reg) (target : BitVec s.w) (hk : kindOf i = .jump) (hl : LenOk s len)
      (ha : s.misalignedTarget target = false) : Effect i s ((s.wrX rd (s.nextPc s.w len)).jump target)
  | store (len : Nat) (a : BitVec s.w) (n : Nat) (v : BitVec (8 * n)) (t : State) (hk : kindOf i = .store)
      (hs : storeSite s i = some (a, n)) (hl : LenOk s len) (hm : s.memWrite a n v = .ok t) : Effect i s (t.advance len)
  | lr (rd : Reg) (a v : BitVec s.w) (hk : kindOf i = .lr) :
      Effect i s (({ s with resvValid := true, resvAddr := resvBlock s.cfg a } : State).result 4 rd v)
  | scWrites (rd : Reg) (a : BitVec s.w) (n : Nat) (v : BitVec (8 * n)) (t : State) (hk : kindOf i = .sc)
      (hs : s.scSucceeds a = true) (ha : storeSite s i = some (a, n)) (hm : s.memWrite a n v = .ok t) : Effect i s (t.dropResv.result 4 rd (0 : BitVec s.w))
  | scFails (rd : Reg) (hk : kindOf i = .sc) : Effect i s (s.dropResv.result 4 rd (BitVec.ofNat s.w 1))
  | amo (rd : Reg) (a v : BitVec s.w) (n : Nat) (b : BitVec (8 * n)) (t : State) (hk : kindOf i = .amo)
      (hs : storeSite s i = some (a, n)) (hm : s.memWrite a n b = .ok t) : Effect i s (t.result 4 rd v)
  | fp (len : Nat) (rd : Reg) (v : Word) (fl : FpFlags) (hk : kindOf i = .fp ∨ kindOf i = .fpLoad) (hl : LenOk s len) :
      Effect i s (((s.wrF rd v).accrue fl).advance len)
  | fpToX (rd : Reg) (v : BitVec s.w) (fl : FpFlags) (hk : kindOf i = .fpToX) :
      Effect i s (((s.wrX rd v).accrue fl).advance 4)
  | fpCsr (rd : Reg) (csr : BitVec 12) (v old : BitVec s.w) (hk : csrOf i = some csr) (hf : isFpCsr csr = true) :
      Effect i s ((s.fpCsrWrite csr v).result 4 rd old)
  | csrWrite (rd : Reg) (csr : BitVec 12) (v : Word) (old : BitVec s.w) (cur : Word) (hk : csrOf i = some csr)
      (hu : s.cfg.unitKind = .standard) (hf : isFpCsr csr = false) (hp : csrForbidden s.unit csr true = false)
      (hr : unitCsrRead s.cfg s.fs s.unit csr = some cur) :
      Effect i s (({ s with unit := unitCsrWrite s.unit csr v, fs := fsAfterWrite s.fs csr v } : State).result 4 rd old)
  | csrOpen (rd : Reg) (csr : BitVec 12) (old : BitVec s.w) (hk : csrOf i = some csr) (hf : isFpCsr csr = false)
      (hu : s.cfg.unitKind = .unspecified) :
      Effect i s (s.unitServes.result 4 rd old)
  | redirect (k : PrivKind) (target : Word) (hk : kindOf i = .ret) (ha : s.privAnswer k = .redirect target) :
      Effect i s ((s.privAfter k).jump (target.setWidth s.w))
  | proceed (k : PrivKind) (hk : kindOf i = .ret ∨ kindOf i = .wait) (hr : k.isReturn = true ↔ kindOf i = .ret)
      (ha : s.privAnswer k ≠ .illegal) : Effect i s ((s.privAfter k).advance 4)

theorem Effect.illegal (i j : Instr) (s : State) : Effect i s (s.illegal j) := .trap _ _

theorem Effect.whenEnabled (i j : Instr) (s t : State) (h : j.enabled s.cfg = true → Effect i s t) :
    Effect i s (s.whenEnabled j t) := by
  rcases s.whenEnabled_cases t j with ⟨-, he, h1⟩ | h1 <;> rw [h1]
  · exact h he
  · exact .illegal _ _ _

theorem Effect.withRounding (i j : Instr) (s : State) (rm : BitVec 3) (k : RMode → State) (h : ∀ m, Effect i s (k m)) :
    Effect i s (s.withRounding j rm k) := by
  refine .whenEnabled _ _ _ _ fun _ => ?_
  split
  · exact .illegal _ _ _
  · exact h _

theorem Effect.load (i : Instr) (s : State) {w : Nat} (a : BitVec w) (n : Nat) (k : BitVec (8 * n) → State)
    (h : ∀ v, Effect i s (k v)) : Effect i s (s.load a n k) := by
  rcases s.load_cases a n k with ⟨-, h1⟩ | ⟨-, f, -, h1⟩ | ⟨-, -, h1⟩ <;> rw [h1]
  · exact .trap _ _
  · exact .trap _ _
  · exact h _

theorem Effect.storeOp (i : Instr) (s : State) (len : Nat) (a : BitVec s.w) (n : Nat) (v : BitVec (8 * n))
    (hk : kindOf i = .store) (hs : storeSite s i = some (a, n)) (hl : LenOk s len) : Effect i s (s.store len a n v) := by
  rcases s.store_cases len a n v with ⟨-, h1⟩ | ⟨-, f, -, h1⟩ | ⟨-, hp, h1⟩ <;> rw [h1]
  · exact .trap _ _
  · exact .trap _ _
  · exact .store len a n v _ hk hs hl (by unfold State.memWrite; rw [hp])

theorem Effect.jumpLink (i : Instr) (s : State) (len : Nat) (rd : Reg) (target : BitVec s.w) (hk : kindOf i = .jump)
    (hl : LenOk s len) : Effect i s (s.jumpLink len rd target) := by
  rcases s.jumpLink_cases len rd target with ⟨-, h1⟩ | ⟨ha, h1⟩ <;> rw [h1]
  · exact .trap _ _
  · exact .jump _ _ _ hk hl ha

theorem Effect.branch (i : Instr) (s : State) (len : Nat) (c : Bool) (off : BitVec s.w) (hk : kindOf i = .branch)
    (hl : LenOk s len) : Effect i s (s.opBranch len c off) := by
  rcases s.opBranch_cases len c off with ⟨-, h1⟩ | ⟨-, -, h1⟩ | ⟨-, ha, h1⟩ <;> rw [h1]
  · exact .advance _ (.inr hk) hl
  · exact .trap _ _
  · exact .taken _ hk ha

theorem Effect.privileged (i j : Instr) (s : State) (k : PrivKind) (hk : kindOf i = .ret ∨ kindOf i = .wait)
    (hr : k.isReturn = true ↔ kindOf i = .ret) : Effect i s (s.privileged j k) := by
  rcases s.privileged_cases j k with ⟨-, h1⟩ | ⟨t, ha, hk', h1⟩ | ⟨ha, h1⟩ <;> rw [h1]
  · exact .illegal _ _ _
  · exact .redirect _ _ (hr.1 hk') ha
  · exact .proceed _ hk hr ha

theorem Effect.csr (i j : Instr) (s : State) (rd : Reg) (csr : BitVec 12) (newOf : BitVec s.w → BitVec s.w) (r d : Bool)
    (hk : kindOf i = .csr) (hc : csrOf i = some csr) : Effect i s (s.csrInstr j rd csr newOf r d) := by
  unfold State.csrInstr
  split
  · rename_i hfp
    split
    · cases d
      · exact .result _ _ _ rfl (.inr (.inr (.inl hk))) (.inl rfl)
      · exact .fpCsr _ _ _ _ hc hfp
    · exact .illegal _ _ _
  · rename_i hfp
    split
    · exact .illegal _ _ _
    · rename_i h
      unfold State.csrAccess at h
      split at h
      · rename_i hu
        split at h
        · cases h
        · cases h; exact .csrOpen _ _ _ hc (by simpa using hfp) hu
      · rename_i hu
        split at h
        · cases h
        · rename_i hforb
          split at h
          · rename_i hr
            cases h
            cases d
            · exact .result _ _ _ rfl (.inr (.inr (.inl hk))) (.inl rfl)
            · exact .csrWrite _ _ _ _ _ hc hu (by simpa using hfp) (by simpa using hforb) hr
          · split at h
            · cases h
            · cases h; exact .result _ _ _ rfl (.inr (.inr (.inl hk))) (.inl rfl)

theorem Effect.opLr (i : Instr) (s : State) (n : Nat) (rd rs1 : Reg) (hk : kindOf i = .lr) : Effect i s (s.opLr n rd rs1) := by
  unfold State.opLr
  simp only
  split
  · exact .trap _ _
  · split
    · exact .trap _ _
    · exact .lr _ _ _ hk

theorem Effect.opSc (i : Instr) (s : State) (n : Nat) (rd rs1 rs2 : Reg) (hk : kindOf i = .sc)
    (ha : storeSite s i = some (s.rdX s.w rs1, n)) :
    Effect i s (s.opSc n rd rs1 rs2) := by
  unfold State.opSc
  simp only
  split
  · exact .trap _ _
  · split
    · rename_i hs
      split
      · exact .trap _ _
      · rename_i h; exact .scWrites _ _ _ _ _ hk hs ha h
    · exact .scFails _ hk

theorem Effect.opAmo (i : Instr) (s : State) (n : Nat) (rd rs1 rs2 : Reg)
    (op : BitVec (8 * n) → BitVec (8 * n) → BitVec (8 * n)) (hk : kindOf i = .amo)
    (hs : storeSite s i = some (s.rdX s.w rs1, n)) : Effect i s (s.opAmo n rd rs1 rs2 op) := by
  unfold State.opAmo
  simp only
  split
  · exact .trap _ _
  · split
    · exact .trap _ _
    · rename_i h
      unfold State.memAmo at h
      split at h
      · cases h
      · split at h
        · cases h
        · rename_i hw
          cases h
          exact .amo _ _ _ _ _ _ hk hs hw

/-- Accruing no flag changes nothing. -/
@[simp] theorem State.accrue_zero (s : State) : s.accrue 0 = s := rfl

theorem Effect.wrF (i : Instr) (s : State) (len : Nat) (rd : Reg) (v : Word) (hk : kindOf i = .fp ∨ kindOf i = .fpLoad)
    (hl : LenOk s len) : Effect i s ((s.wrF rd v).advance len) := .fp len rd v 0 hk hl

theorem Effect.fpResult (i : Instr) (s : State) (p : Prec) (rd : Reg) (r : FpResult) (hk : kindOf i = .fp) :
    Effect i s (s.fpResult p rd r) := by
  unfold State.fpResult
  cases p <;> exact .fp _ _ _ _ (.inl hk) (.inl rfl)

theorem Effect.opSgnj (i : Instr) (s : State) (p : Prec) (rd rs1 rs2 : Reg) (f : Bool → Bool → Bool)
    (hk : kindOf i = .fp) : Effect i s (s.opSgnj p rd rs1 rs2 f) := by
  unfold State.opSgnj
  cases p <;> exact .wrF _ _ _ _ _ (.inl hk) (.inl rfl)

theorem Effect.fload (i : Instr) (s : State) (p : Prec) (len : Nat) (rd rs1 : Reg) (imm : BitVec s.w)
    (hk : kindOf i = .fpLoad) (hl : LenOk s len) : Effect i s (s.opFload p len rd rs1 imm) := by
  unfold State.opFload
  cases p <;> exact .load _ _ _ _ _ fun v => .wrF _ _ _ _ _ (.inr hk) hl

theorem Effect.fstore (i : Instr) (s : State) (p : Prec) (len : Nat) (rs1 rs2 : Reg) (imm : BitVec s.w)
    (hk : kindOf i = .store)
    (hs : storeSite s i = some (s.effAddr s.w rs1 imm, match p with | .single => 4 | .double => 8)) (hl : LenOk s len) :
    Effect i s (s.opFstore p len rs1 rs2 imm) := by
  unfold State.opFstore
  cases p <;> exact .storeOp _ _ _ _ _ _ hk hs hl

/-- An enabled compressed instruction has length 2 in a configuration with C. -/
theorem lenOk_half (s : State) (i : Instr) (h : i.enabled s.cfg = true)
    (hx : i.row.ext = .c ∨ i.row.ext = .cf ∨ i.row.ext = .cd) : LenOk s 2 := by
  refine .inr ⟨rfl, ?_⟩
  simp only [Instr.enabled, Bool.and_eq_true] at h
  have h2 := h.1.2
  rcases hx with e | e | e <;> rw [e] at h2 <;> simp_all [Config.extOn]

/-- An enabled instruction of XLEN = 64 only runs at that width. -/
theorem w_of_enabled (s : State) {i : Instr} (h : i.enabled s.cfg = true) (hx : i.row.xlen = some .rv64) : s.w = 64 := by
  simp only [Instr.enabled, Bool.and_eq_true] at h
  have h2 := h.1.1
  rw [hx] at h2
  have : s.cfg.xlen = .rv64 := by cases hc : s.cfg.xlen <;> simp_all
  unfold State.w
  rw [this]
  rfl

/-- Every instruction answers a next state, and it is one of the effects its kind allows. -/
theorem exec_effect (i : Instr) (s : State) : ∃ t, exec i s = .next t ∧ Effect i s t := by
  cases i with
  | lui _ _ => exact ⟨_, rfl, .result _ _ _ rfl (.inl rfl) (.inl rfl)⟩
  | auipc _ _ => exact ⟨_, rfl, .result _ _ _ rfl (.inl rfl) (.inl rfl)⟩
  | jal _ _ => exact ⟨_, rfl, .jumpLink _ _ _ _ _ rfl (.inl rfl)⟩
  | jalr _ _ _ => exact ⟨_, rfl, .jumpLink _ _ _ _ _ rfl (.inl rfl)⟩
  | beq _ _ _ => exact ⟨_, rfl, .branch _ _ _ _ _ rfl (.inl rfl)⟩
  | bne _ _ _ => exact ⟨_, rfl, .branch _ _ _ _ _ rfl (.inl rfl)⟩
  | blt _ _ _ => exact ⟨_, rfl, .branch _ _ _ _ _ rfl (.inl rfl)⟩
  | bge _ _ _ => exact ⟨_, rfl, .branch _ _ _ _ _ rfl (.inl rfl)⟩
  | bltu _ _ _ => exact ⟨_, rfl, .branch _ _ _ _ _ rfl (.inl rfl)⟩
  | bgeu _ _ _ => exact ⟨_, rfl, .branch _ _ _ _ _ rfl (.inl rfl)⟩
  | lb _ _ _ => exact ⟨_, rfl, .load _ _ _ _ _ fun _ => .result _ _ _ rfl (.inr (.inl rfl)) (.inl rfl)⟩
  | lh _ _ _ => exact ⟨_, rfl, .load _ _ _ _ _ fun _ => .result _ _ _ rfl (.inr (.inl rfl)) (.inl rfl)⟩
  | lw _ _ _ => exact ⟨_, rfl, .load _ _ _ _ _ fun _ => .result _ _ _ rfl (.inr (.inl rfl)) (.inl rfl)⟩
  | ld _ _ _ => exact ⟨_, rfl, .whenEnabled _ _ _ _ fun _ => .load _ _ _ _ _ fun _ => .result _ _ _ rfl (.inr (.inl rfl)) (.inl rfl)⟩
  | lbu _ _ _ => exact ⟨_, rfl, .load _ _ _ _ _ fun _ => .result _ _ _ rfl (.inr (.inl rfl)) (.inl rfl)⟩
  | lhu _ _ _ => exact ⟨_, rfl, .load _ _ _ _ _ fun _ => .result _ _ _ rfl (.inr (.inl rfl)) (.inl rfl)⟩
  | lwu _ _ _ => exact ⟨_, rfl, .whenEnabled _ _ _ _ fun _ => .load _ _ _ _ _ fun _ => .result _ _ _ rfl (.inr (.inl rfl)) (.inl rfl)⟩
  | sb _ _ _ => exact ⟨_, rfl, .storeOp _ _ _ _ _ _ rfl rfl (.inl rfl)⟩
  | sh _ _ _ => exact ⟨_, rfl, .storeOp _ _ _ _ _ _ rfl rfl (.inl rfl)⟩
  | sw _ _ _ => exact ⟨_, rfl, .storeOp _ _ _ _ _ _ rfl rfl (.inl rfl)⟩
  | sd _ _ _ => exact ⟨_, rfl, .whenEnabled _ _ _ _ fun _ => .storeOp _ _ _ _ _ _ rfl rfl (.inl rfl)⟩
  | addi _ _ _ => exact ⟨_, rfl, .result _ _ _ rfl (.inl rfl) (.inl rfl)⟩
  | slti _ _ _ => exact ⟨_, rfl, .result _ _ _ rfl (.inl rfl) (.inl rfl)⟩
  | sltiu _ _ _ => exact ⟨_, rfl, .result _ _ _ rfl (.inl rfl) (.inl rfl)⟩
  | xori _ _ _ => exact ⟨_, rfl, .result _ _ _ rfl (.inl rfl) (.inl rfl)⟩
  | ori _ _ _ => exact ⟨_, rfl, .result _ _ _ rfl (.inl rfl) (.inl rfl)⟩
  | andi _ _ _ => exact ⟨_, rfl, .result _ _ _ rfl (.inl rfl) (.inl rfl)⟩
  | slli _ _ _ => exact ⟨_, rfl, .whenEnabled _ _ _ _ fun _ => .result _ _ _ rfl (.inl rfl) (.inl rfl)⟩
  | srli _ _ _ => exact ⟨_, rfl, .whenEnabled _ _ _ _ fun _ => .result _ _ _ rfl (.inl rfl) (.inl rfl)⟩
  | srai _ _ _ => exact ⟨_, rfl, .whenEnabled _ _ _ _ fun _ => .result _ _ _ rfl (.inl rfl) (.inl rfl)⟩
  | add _ _ _ => exact ⟨_, rfl, .result _ _ _ rfl (.inl rfl) (.inl rfl)⟩
  | sub _ _ _ => exact ⟨_, rfl, .result _ _ _ rfl (.inl rfl) (.inl rfl)⟩
  | sll _ _ _ => exact ⟨_, rfl, .result _ _ _ rfl (.inl rfl) (.inl rfl)⟩
  | slt _ _ _ => exact ⟨_, rfl, .result _ _ _ rfl (.inl rfl) (.inl rfl)⟩
  | sltu _ _ _ => exact ⟨_, rfl, .result _ _ _ rfl (.inl rfl) (.inl rfl)⟩
  | xor _ _ _ => exact ⟨_, rfl, .result _ _ _ rfl (.inl rfl) (.inl rfl)⟩
  | srl _ _ _ => exact ⟨_, rfl, .result _ _ _ rfl (.inl rfl) (.inl rfl)⟩
  | sra _ _ _ => exact ⟨_, rfl, .result _ _ _ rfl (.inl rfl) (.inl rfl)⟩
  | or _ _ _ => exact ⟨_, rfl, .result _ _ _ rfl (.inl rfl) (.inl rfl)⟩
  | and _ _ _ => exact ⟨_, rfl, .result _ _ _ rfl (.inl rfl) (.inl rfl)⟩
  | addiw _ _ _ => exact ⟨_, rfl, .whenEnabled _ _ _ _ fun _ => .result _ _ _ rfl (.inl rfl) (.inl rfl)⟩
  | slliw _ _ _ => exact ⟨_, rfl, .whenEnabled _ _ _ _ fun _ => .result _ _ _ rfl (.inl rfl) (.inl rfl)⟩
  | srliw _ _ _ => exact ⟨_, rfl, .whenEnabled _ _ _ _ fun _ => .result _ _ _ rfl (.inl rfl) (.inl rfl)⟩
  | sraiw _ _ _ => exact ⟨_, rfl, .whenEnabled _ _ _ _ fun _ => .result _ _ _ rfl (.inl rfl) (.inl rfl)⟩
  | addw _ _ _ => exact ⟨_, rfl, .whenEnabled _ _ _ _ fun _ => .result _ _ _ rfl (.inl rfl) (.inl rfl)⟩
  | subw _ _ _ => exact ⟨_, rfl, .whenEnabled _ _ _ _ fun _ => .result _ _ _ rfl (.inl rfl) (.inl rfl)⟩
  | sllw _ _ _ => exact ⟨_, rfl, .whenEnabled _ _ _ _ fun _ => .result _ _ _ rfl (.inl rfl) (.inl rfl)⟩
  | srlw _ _ _ => exact ⟨_, rfl, .whenEnabled _ _ _ _ fun _ => .result _ _ _ rfl (.inl rfl) (.inl rfl)⟩
  | sraw _ _ _ => exact ⟨_, rfl, .whenEnabled _ _ _ _ fun _ => .result _ _ _ rfl (.inl rfl) (.inl rfl)⟩
  | fence _ _ _ _ _ => exact ⟨_, rfl, .advance _ (.inl rfl) (.inl rfl)⟩
  | fenceI _ _ _ => exact ⟨_, rfl, .advance _ (.inl rfl) (.inl rfl)⟩
  | ecall => exact ⟨_, rfl, .trap _ _⟩
  | ebreak => exact ⟨_, rfl, .trap _ _⟩
  | csrrw _ _ _ => exact ⟨_, rfl, .csr _ _ _ _ _ _ _ _ rfl rfl⟩
  | csrrs _ _ _ => exact ⟨_, rfl, .csr _ _ _ _ _ _ _ _ rfl rfl⟩
  | csrrc _ _ _ => exact ⟨_, rfl, .csr _ _ _ _ _ _ _ _ rfl rfl⟩
  | csrrwi _ _ _ => exact ⟨_, rfl, .csr _ _ _ _ _ _ _ _ rfl rfl⟩
  | csrrsi _ _ _ => exact ⟨_, rfl, .csr _ _ _ _ _ _ _ _ rfl rfl⟩
  | csrrci _ _ _ => exact ⟨_, rfl, .csr _ _ _ _ _ _ _ _ rfl rfl⟩
  | sret => exact ⟨_, rfl, .privileged _ _ _ _ (.inl rfl) ⟨fun _ => rfl, fun _ => rfl⟩⟩
  | mret => exact ⟨_, rfl, .privileged _ _ _ _ (.inl rfl) ⟨fun _ => rfl, fun _ => rfl⟩⟩
  | wfi => exact ⟨_, rfl, .privileged _ _ _ _ (.inr rfl) ⟨nofun, nofun⟩⟩
  | sfenceVma _ _ => exact ⟨_, rfl, .privileged _ _ _ _ (.inr rfl) ⟨nofun, nofun⟩⟩
  | mul _ _ _ => exact ⟨_, rfl, .whenEnabled _ _ _ _ fun _ => .result _ _ _ rfl (.inl rfl) (.inl rfl)⟩
  | mulh _ _ _ => exact ⟨_, rfl, .whenEnabled _ _ _ _ fun _ => .result _ _ _ rfl (.inl rfl) (.inl rfl)⟩
  | mulhsu _ _ _ => exact ⟨_, rfl, .whenEnabled _ _ _ _ fun _ => .result _ _ _ rfl (.inl rfl) (.inl rfl)⟩
  | mulhu _ _ _ => exact ⟨_, rfl, .whenEnabled _ _ _ _ fun _ => .result _ _ _ rfl (.inl rfl) (.inl rfl)⟩
  | div _ _ _ => exact ⟨_, rfl, .whenEnabled _ _ _ _ fun _ => .result _ _ _ rfl (.inl rfl) (.inl rfl)⟩
  | divu _ _ _ => exact ⟨_, rfl, .whenEnabled _ _ _ _ fun _ => .result _ _ _ rfl (.inl rfl) (.inl rfl)⟩
  | rem _ _ _ => exact ⟨_, rfl, .whenEnabled _ _ _ _ fun _ => .result _ _ _ rfl (.inl rfl) (.inl rfl)⟩
  | remu _ _ _ => exact ⟨_, rfl, .whenEnabled _ _ _ _ fun _ => .result _ _ _ rfl (.inl rfl) (.inl rfl)⟩
  | mulw _ _ _ => exact ⟨_, rfl, .whenEnabled _ _ _ _ fun _ => .result _ _ _ rfl (.inl rfl) (.inl rfl)⟩
  | divw _ _ _ => exact ⟨_, rfl, .whenEnabled _ _ _ _ fun _ => .result _ _ _ rfl (.inl rfl) (.inl rfl)⟩
  | divuw _ _ _ => exact ⟨_, rfl, .whenEnabled _ _ _ _ fun _ => .result _ _ _ rfl (.inl rfl) (.inl rfl)⟩
  | remw _ _ _ => exact ⟨_, rfl, .whenEnabled _ _ _ _ fun _ => .result _ _ _ rfl (.inl rfl) (.inl rfl)⟩
  | remuw _ _ _ => exact ⟨_, rfl, .whenEnabled _ _ _ _ fun _ => .result _ _ _ rfl (.inl rfl) (.inl rfl)⟩
  | lrW _ _ _ _ => exact ⟨_, rfl, .whenEnabled _ _ _ _ fun _ => .opLr _ _ _ _ _ rfl⟩
  | scW _ _ _ _ _ => exact ⟨_, rfl, .whenEnabled _ _ _ _ fun _ => .opSc _ _ _ _ _ _ rfl rfl⟩
  | amoaddW _ _ _ _ _ => exact ⟨_, rfl, .whenEnabled _ _ _ _ fun _ => .opAmo _ _ _ _ _ _ _ rfl rfl⟩
  | amoswapW _ _ _ _ _ => exact ⟨_, rfl, .whenEnabled _ _ _ _ fun _ => .opAmo _ _ _ _ _ _ _ rfl rfl⟩
  | amoxorW _ _ _ _ _ => exact ⟨_, rfl, .whenEnabled _ _ _ _ fun _ => .opAmo _ _ _ _ _ _ _ rfl rfl⟩
  | amoorW _ _ _ _ _ => exact ⟨_, rfl, .whenEnabled _ _ _ _ fun _ => .opAmo _ _ _ _ _ _ _ rfl rfl⟩
  | amoandW _ _ _ _ _ => exact ⟨_, rfl, .whenEnabled _ _ _ _ fun _ => .opAmo _ _ _ _ _ _ _ rfl rfl⟩
  | amominW _ _ _ _ _ => exact ⟨_, rfl, .whenEnabled _ _ _ _ fun _ => .opAmo _ _ _ _ _ _ _ rfl rfl⟩
  | amomaxW _ _ _ _ _ => exact ⟨_, rfl, .whenEnabled _ _ _ _ fun _ => .opAmo _ _ _ _ _ _ _ rfl rfl⟩
  | amominuW _ _ _ _ _ => exact ⟨_, rfl, .whenEnabled _ _ _ _ fun _ => .opAmo _ _ _ _ _ _ _ rfl rfl⟩
  | amomaxuW _ _ _ _ _ => exact ⟨_, rfl, .whenEnabled _ _ _ _ fun _ => .opAmo _ _ _ _ _ _ _ rfl rfl⟩
  | lrD _ _ _ _ => exact ⟨_, rfl, .whenEnabled _ _ _ _ fun _ => .opLr _ _ _ _ _ rfl⟩
  | scD _ _ _ _ _ => exact ⟨_, rfl, .whenEnabled _ _ _ _ fun _ => .opSc _ _ _ _ _ _ rfl rfl⟩
  | amoaddD _ _ _ _ _ => exact ⟨_, rfl, .whenEnabled _ _ _ _ fun _ => .opAmo _ _ _ _ _ _ _ rfl rfl⟩
  | amoswapD _ _ _ _ _ => exact ⟨_, rfl, .whenEnabled _ _ _ _ fun _ => .opAmo _ _ _ _ _ _ _ rfl rfl⟩
  | amoxorD _ _ _ _ _ => exact ⟨_, rfl, .whenEnabled _ _ _ _ fun _ => .opAmo _ _ _ _ _ _ _ rfl rfl⟩
  | amoorD _ _ _ _ _ => exact ⟨_, rfl, .whenEnabled _ _ _ _ fun _ => .opAmo _ _ _ _ _ _ _ rfl rfl⟩
  | amoandD _ _ _ _ _ => exact ⟨_, rfl, .whenEnabled _ _ _ _ fun _ => .opAmo _ _ _ _ _ _ _ rfl rfl⟩
  | amominD _ _ _ _ _ => exact ⟨_, rfl, .whenEnabled _ _ _ _ fun _ => .opAmo _ _ _ _ _ _ _ rfl rfl⟩
  | amomaxD _ _ _ _ _ => exact ⟨_, rfl, .whenEnabled _ _ _ _ fun _ => .opAmo _ _ _ _ _ _ _ rfl rfl⟩
  | amominuD _ _ _ _ _ => exact ⟨_, rfl, .whenEnabled _ _ _ _ fun _ => .opAmo _ _ _ _ _ _ _ rfl rfl⟩
  | amomaxuD _ _ _ _ _ => exact ⟨_, rfl, .whenEnabled _ _ _ _ fun _ => .opAmo _ _ _ _ _ _ _ rfl rfl⟩
  | flw _ _ _ => exact ⟨_, rfl, .whenEnabled _ _ _ _ fun _ => .fload _ _ _ _ _ _ _ rfl (.inl rfl)⟩
  | fsw _ _ _ => exact ⟨_, rfl, .whenEnabled _ _ _ _ fun _ => .fstore _ _ _ _ _ _ _ rfl rfl (.inl rfl)⟩
  | fmaddS _ _ _ _ _ => exact ⟨_, rfl, .withRounding _ _ _ _ _ fun _ => .fpResult _ _ _ _ _ rfl⟩
  | fmsubS _ _ _ _ _ => exact ⟨_, rfl, .withRounding _ _ _ _ _ fun _ => .fpResult _ _ _ _ _ rfl⟩
  | fnmsubS _ _ _ _ _ => exact ⟨_, rfl, .withRounding _ _ _ _ _ fun _ => .fpResult _ _ _ _ _ rfl⟩
  | fnmaddS _ _ _ _ _ => exact ⟨_, rfl, .withRounding _ _ _ _ _ fun _ => .fpResult _ _ _ _ _ rfl⟩
  | faddS _ _ _ _ => exact ⟨_, rfl, .withRounding _ _ _ _ _ fun _ => .fpResult _ _ _ _ _ rfl⟩
  | fsubS _ _ _ _ => exact ⟨_, rfl, .withRounding _ _ _ _ _ fun _ => .fpResult _ _ _ _ _ rfl⟩
  | fmulS _ _ _ _ => exact ⟨_, rfl, .withRounding _ _ _ _ _ fun _ => .fpResult _ _ _ _ _ rfl⟩
  | fdivS _ _ _ _ => exact ⟨_, rfl, .withRounding _ _ _ _ _ fun _ => .fpResult _ _ _ _ _ rfl⟩
  | fsqrtS _ _ _ => exact ⟨_, rfl, .withRounding _ _ _ _ _ fun _ => .fpResult _ _ _ _ _ rfl⟩
  | fsgnjS _ _ _ => exact ⟨_, rfl, .whenEnabled _ _ _ _ fun _ => .opSgnj _ _ _ _ _ _ _ rfl⟩
  | fsgnjnS _ _ _ => exact ⟨_, rfl, .whenEnabled _ _ _ _ fun _ => .opSgnj _ _ _ _ _ _ _ rfl⟩
  | fsgnjxS _ _ _ => exact ⟨_, rfl, .whenEnabled _ _ _ _ fun _ => .opSgnj _ _ _ _ _ _ _ rfl⟩
  | fminS _ _ _ => exact ⟨_, rfl, .whenEnabled _ _ _ _ fun _ => .fpResult _ _ _ _ _ rfl⟩
  | fmaxS _ _ _ => exact ⟨_, rfl, .whenEnabled _ _ _ _ fun _ => .fpResult _ _ _ _ _ rfl⟩
  | feqS _ _ _ => exact ⟨_, rfl, .whenEnabled _ _ _ _ fun _ => .fpToX _ _ _ rfl⟩
  | fltS _ _ _ => exact ⟨_, rfl, .whenEnabled _ _ _ _ fun _ => .fpToX _ _ _ rfl⟩
  | fleS _ _ _ => exact ⟨_, rfl, .whenEnabled _ _ _ _ fun _ => .fpToX _ _ _ rfl⟩
  | fclassS _ _ => exact ⟨_, rfl, .whenEnabled _ _ _ _ fun _ => .fpToX _ _ _ rfl⟩
  | fcvtWS _ _ _ => exact ⟨_, rfl, .withRounding _ _ _ _ _ fun _ => .fpToX _ _ _ rfl⟩
  | fcvtSW _ _ _ => exact ⟨_, rfl, .withRounding _ _ _ _ _ fun _ => .fpResult _ _ _ _ _ rfl⟩
  | fcvtWuS _ _ _ => exact ⟨_, rfl, .withRounding _ _ _ _ _ fun _ => .fpToX _ _ _ rfl⟩
  | fcvtSWu _ _ _ => exact ⟨_, rfl, .withRounding _ _ _ _ _ fun _ => .fpResult _ _ _ _ _ rfl⟩
  | fcvtLS _ _ _ => exact ⟨_, rfl, .withRounding _ _ _ _ _ fun _ => .fpToX _ _ _ rfl⟩
  | fcvtSL _ _ _ => exact ⟨_, rfl, .withRounding _ _ _ _ _ fun _ => .fpResult _ _ _ _ _ rfl⟩
  | fcvtLuS _ _ _ => exact ⟨_, rfl, .withRounding _ _ _ _ _ fun _ => .fpToX _ _ _ rfl⟩
  | fcvtSLu _ _ _ => exact ⟨_, rfl, .withRounding _ _ _ _ _ fun _ => .fpResult _ _ _ _ _ rfl⟩
  | fmvXW _ _ => exact ⟨_, rfl, .whenEnabled _ _ _ _ fun _ => .result _ _ _ rfl (.inr (.inr (.inr rfl))) (.inl rfl)⟩
  | fmvWX _ _ => exact ⟨_, rfl, .whenEnabled _ _ _ _ fun _ => .wrF _ _ _ _ _ (.inl rfl) (.inl rfl)⟩
  | fld _ _ _ => exact ⟨_, rfl, .whenEnabled _ _ _ _ fun _ => .fload _ _ _ _ _ _ _ rfl (.inl rfl)⟩
  | fsd _ _ _ => exact ⟨_, rfl, .whenEnabled _ _ _ _ fun _ => .fstore _ _ _ _ _ _ _ rfl rfl (.inl rfl)⟩
  | fmaddD _ _ _ _ _ => exact ⟨_, rfl, .withRounding _ _ _ _ _ fun _ => .fpResult _ _ _ _ _ rfl⟩
  | fmsubD _ _ _ _ _ => exact ⟨_, rfl, .withRounding _ _ _ _ _ fun _ => .fpResult _ _ _ _ _ rfl⟩
  | fnmsubD _ _ _ _ _ => exact ⟨_, rfl, .withRounding _ _ _ _ _ fun _ => .fpResult _ _ _ _ _ rfl⟩
  | fnmaddD _ _ _ _ _ => exact ⟨_, rfl, .withRounding _ _ _ _ _ fun _ => .fpResult _ _ _ _ _ rfl⟩
  | faddD _ _ _ _ => exact ⟨_, rfl, .withRounding _ _ _ _ _ fun _ => .fpResult _ _ _ _ _ rfl⟩
  | fsubD _ _ _ _ => exact ⟨_, rfl, .withRounding _ _ _ _ _ fun _ => .fpResult _ _ _ _ _ rfl⟩
  | fmulD _ _ _ _ => exact ⟨_, rfl, .withRounding _ _ _ _ _ fun _ => .fpResult _ _ _ _ _ rfl⟩
  | fdivD _ _ _ _ => exact ⟨_, rfl, .withRounding _ _ _ _ _ fun _ => .fpResult _ _ _ _ _ rfl⟩
  | fsqrtD _ _ _ => exact ⟨_, rfl, .withRounding _ _ _ _ _ fun _ => .fpResult _ _ _ _ _ rfl⟩
  | fsgnjD _ _ _ => exact ⟨_, rfl, .whenEnabled _ _ _ _ fun _ => .opSgnj _ _ _ _ _ _ _ rfl⟩
  | fsgnjnD _ _ _ => exact ⟨_, rfl, .whenEnabled _ _ _ _ fun _ => .opSgnj _ _ _ _ _ _ _ rfl⟩
  | fsgnjxD _ _ _ => exact ⟨_, rfl, .whenEnabled _ _ _ _ fun _ => .opSgnj _ _ _ _ _ _ _ rfl⟩
  | fminD _ _ _ => exact ⟨_, rfl, .whenEnabled _ _ _ _ fun _ => .fpResult _ _ _ _ _ rfl⟩
  | fmaxD _ _ _ => exact ⟨_, rfl, .whenEnabled _ _ _ _ fun _ => .fpResult _ _ _ _ _ rfl⟩
  | feqD _ _ _ => exact ⟨_, rfl, .whenEnabled _ _ _ _ fun _ => .fpToX _ _ _ rfl⟩
  | fltD _ _ _ => exact ⟨_, rfl, .whenEnabled _ _ _ _ fun _ => .fpToX _ _ _ rfl⟩
  | fleD _ _ _ => exact ⟨_, rfl, .whenEnabled _ _ _ _ fun _ => .fpToX _ _ _ rfl⟩
  | fclassD _ _ => exact ⟨_, rfl, .whenEnabled _ _ _ _ fun _ => .fpToX _ _ _ rfl⟩
  | fcvtWD _ _ _ => exact ⟨_, rfl, .withRounding _ _ _ _ _ fun _ => .fpToX _ _ _ rfl⟩
  | fcvtDW _ _ _ => exact ⟨_, rfl, .withRounding _ _ _ _ _ fun _ => .fpResult _ _ _ _ _ rfl⟩
  | fcvtWuD _ _ _ => exact ⟨_, rfl, .withRounding _ _ _ _ _ fun _ => .fpToX _ _ _ rfl⟩
  | fcvtDWu _ _ _ => exact ⟨_, rfl, .withRounding _ _ _ _ _ fun _ => .fpResult _ _ _ _ _ rfl⟩
  | fcvtLD _ _ _ => exact ⟨_, rfl, .withRounding _ _ _ _ _ fun _ => .fpToX _ _ _ rfl⟩
  | fcvtDL _ _ _ => exact ⟨_, rfl, .withRounding _ _ _ _ _ fun _ => .fpResult _ _ _ _ _ rfl⟩
  | fcvtLuD _ _ _ => exact ⟨_, rfl, .withRounding _ _ _ _ _ fun _ => .fpToX _ _ _ rfl⟩
  | fcvtDLu _ _ _ => exact ⟨_, rfl, .withRounding _ _ _ _ _ fun _ => .fpResult _ _ _ _ _ rfl⟩
  | fcvtSD _ _ _ => exact ⟨_, rfl, .withRounding _ _ _ _ _ fun _ => .fpResult _ _ _ _ _ rfl⟩
  | fcvtDS _ _ _ => exact ⟨_, rfl, .withRounding _ _ _ _ _ fun _ => .fpResult _ _ _ _ _ rfl⟩
  | fmvXD _ _ => exact ⟨_, rfl, .whenEnabled _ _ _ _ fun he => .result _ _ _ (w_of_enabled s he rfl).symm (.inr (.inr (.inr rfl))) (.inl rfl)⟩
  | fmvDX _ _ => exact ⟨_, rfl, .whenEnabled _ _ _ _ fun _ => .wrF _ _ _ _ _ (.inl rfl) (.inl rfl)⟩
  | cAddi4spn _ _ => exact ⟨_, rfl, .whenEnabled _ _ _ _ fun he => by have hl := lenOk_half _ _ he (by simp [Instr.row]); exact .result _ _ _ rfl (.inl rfl) hl⟩
  | cFld _ _ _ => exact ⟨_, rfl, .whenEnabled _ _ _ _ fun he => by have hl := lenOk_half _ _ he (by simp [Instr.row]); exact .fload _ _ _ _ _ _ _ rfl hl⟩
  | cLw _ _ _ => exact ⟨_, rfl, .whenEnabled _ _ _ _ fun he => by have hl := lenOk_half _ _ he (by simp [Instr.row]); exact .load _ _ _ _ _ fun _ => .result _ _ _ rfl (.inr (.inl rfl)) hl⟩
  | cFlw _ _ _ => exact ⟨_, rfl, .whenEnabled _ _ _ _ fun he => by have hl := lenOk_half _ _ he (by simp [Instr.row]); exact .fload _ _ _ _ _ _ _ rfl hl⟩
  | cLd _ _ _ => exact ⟨_, rfl, .whenEnabled _ _ _ _ fun he => by have hl := lenOk_half _ _ he (by simp [Instr.row]); exact .load _ _ _ _ _ fun _ => .result _ _ _ rfl (.inr (.inl rfl)) hl⟩
  | cFsd _ _ _ => exact ⟨_, rfl, .whenEnabled _ _ _ _ fun he => by have hl := lenOk_half _ _ he (by simp [Instr.row]); exact .fstore _ _ _ _ _ _ _ rfl rfl hl⟩
  | cSw _ _ _ => exact ⟨_, rfl, .whenEnabled _ _ _ _ fun he => by have hl := lenOk_half _ _ he (by simp [Instr.row]); exact .storeOp _ _ _ _ _ _ rfl rfl hl⟩
  | cFsw _ _ _ => exact ⟨_, rfl, .whenEnabled _ _ _ _ fun he => by have hl := lenOk_half _ _ he (by simp [Instr.row]); exact .fstore _ _ _ _ _ _ _ rfl rfl hl⟩
  | cSd _ _ _ => exact ⟨_, rfl, .whenEnabled _ _ _ _ fun he => by have hl := lenOk_half _ _ he (by simp [Instr.row]); exact .storeOp _ _ _ _ _ _ rfl rfl hl⟩
  | cNop _ => exact ⟨_, rfl, .whenEnabled _ _ _ _ fun he => by have hl := lenOk_half _ _ he (by simp [Instr.row]); exact .result _ _ _ rfl (.inl rfl) hl⟩
  | cAddi _ _ => exact ⟨_, rfl, .whenEnabled _ _ _ _ fun he => by have hl := lenOk_half _ _ he (by simp [Instr.row]); exact .result _ _ _ rfl (.inl rfl) hl⟩
  | cJal _ => exact ⟨_, rfl, .whenEnabled _ _ _ _ fun he => by have hl := lenOk_half _ _ he (by simp [Instr.row]); exact .jumpLink _ _ _ _ _ rfl hl⟩
  | cAddiw _ _ => exact ⟨_, rfl, .whenEnabled _ _ _ _ fun he => by have hl := lenOk_half _ _ he (by simp [Instr.row]); exact .result _ _ _ rfl (.inl rfl) hl⟩
  | cLi _ _ => exact ⟨_, rfl, .whenEnabled _ _ _ _ fun he => by have hl := lenOk_half _ _ he (by simp [Instr.row]); exact .result _ _ _ rfl (.inl rfl) hl⟩
  | cAddi16sp _ => exact ⟨_, rfl, .whenEnabled _ _ _ _ fun he => by have hl := lenOk_half _ _ he (by simp [Instr.row]); exact .result _ _ _ rfl (.inl rfl) hl⟩
  | cLui _ _ => exact ⟨_, rfl, .whenEnabled _ _ _ _ fun he => by have hl := lenOk_half _ _ he (by simp [Instr.row]); exact .result _ _ _ rfl (.inl rfl) hl⟩
  | cSrli _ _ => exact ⟨_, rfl, .whenEnabled _ _ _ _ fun he => by have hl := lenOk_half _ _ he (by simp [Instr.row]); exact .result _ _ _ rfl (.inl rfl) hl⟩
  | cSrai _ _ => exact ⟨_, rfl, .whenEnabled _ _ _ _ fun he => by have hl := lenOk_half _ _ he (by simp [Instr.row]); exact .result _ _ _ rfl (.inl rfl) hl⟩
  | cAndi _ _ => exact ⟨_, rfl, .whenEnabled _ _ _ _ fun he => by have hl := lenOk_half _ _ he (by simp [Instr.row]); exact .result _ _ _ rfl (.inl rfl) hl⟩
  | cSub _ _ => exact ⟨_, rfl, .whenEnabled _ _ _ _ fun he => by have hl := lenOk_half _ _ he (by simp [Instr.row]); exact .result _ _ _ rfl (.inl rfl) hl⟩
  | cXor _ _ => exact ⟨_, rfl, .whenEnabled _ _ _ _ fun he => by have hl := lenOk_half _ _ he (by simp [Instr.row]); exact .result _ _ _ rfl (.inl rfl) hl⟩
  | cOr _ _ => exact ⟨_, rfl, .whenEnabled _ _ _ _ fun he => by have hl := lenOk_half _ _ he (by simp [Instr.row]); exact .result _ _ _ rfl (.inl rfl) hl⟩
  | cAnd _ _ => exact ⟨_, rfl, .whenEnabled _ _ _ _ fun he => by have hl := lenOk_half _ _ he (by simp [Instr.row]); exact .result _ _ _ rfl (.inl rfl) hl⟩
  | cSubw _ _ => exact ⟨_, rfl, .whenEnabled _ _ _ _ fun he => by have hl := lenOk_half _ _ he (by simp [Instr.row]); exact .result _ _ _ rfl (.inl rfl) hl⟩
  | cAddw _ _ => exact ⟨_, rfl, .whenEnabled _ _ _ _ fun he => by have hl := lenOk_half _ _ he (by simp [Instr.row]); exact .result _ _ _ rfl (.inl rfl) hl⟩
  | cJ _ => exact ⟨_, rfl, .whenEnabled _ _ _ _ fun he => by have hl := lenOk_half _ _ he (by simp [Instr.row]); exact .jumpLink _ _ _ _ _ rfl hl⟩
  | cBeqz _ _ => exact ⟨_, rfl, .whenEnabled _ _ _ _ fun he => by have hl := lenOk_half _ _ he (by simp [Instr.row]); exact .branch _ _ _ _ _ rfl hl⟩
  | cBnez _ _ => exact ⟨_, rfl, .whenEnabled _ _ _ _ fun he => by have hl := lenOk_half _ _ he (by simp [Instr.row]); exact .branch _ _ _ _ _ rfl hl⟩
  | cSlli _ _ => exact ⟨_, rfl, .whenEnabled _ _ _ _ fun he => by have hl := lenOk_half _ _ he (by simp [Instr.row]); exact .result _ _ _ rfl (.inl rfl) hl⟩
  | cFldsp _ _ => exact ⟨_, rfl, .whenEnabled _ _ _ _ fun he => by have hl := lenOk_half _ _ he (by simp [Instr.row]); exact .fload _ _ _ _ _ _ _ rfl hl⟩
  | cLwsp _ _ => exact ⟨_, rfl, .whenEnabled _ _ _ _ fun he => by have hl := lenOk_half _ _ he (by simp [Instr.row]); exact .load _ _ _ _ _ fun _ => .result _ _ _ rfl (.inr (.inl rfl)) hl⟩
  | cFlwsp _ _ => exact ⟨_, rfl, .whenEnabled _ _ _ _ fun he => by have hl := lenOk_half _ _ he (by simp [Instr.row]); exact .fload _ _ _ _ _ _ _ rfl hl⟩
  | cLdsp _ _ => exact ⟨_, rfl, .whenEnabled _ _ _ _ fun he => by have hl := lenOk_half _ _ he (by simp [Instr.row]); exact .load _ _ _ _ _ fun _ => .result _ _ _ rfl (.inr (.inl rfl)) hl⟩
  | cJr _ => exact ⟨_, rfl, .whenEnabled _ _ _ _ fun he => by have hl := lenOk_half _ _ he (by simp [Instr.row]); exact .jumpLink _ _ _ _ _ rfl hl⟩
  | cMv _ _ => exact ⟨_, rfl, .whenEnabled _ _ _ _ fun he => by have hl := lenOk_half _ _ he (by simp [Instr.row]); exact .result _ _ _ rfl (.inl rfl) hl⟩
  | cEbreak => exact ⟨_, rfl, .whenEnabled _ _ _ _ fun _ => .trap _ _⟩
  | cJalr _ => exact ⟨_, rfl, .whenEnabled _ _ _ _ fun he => by have hl := lenOk_half _ _ he (by simp [Instr.row]); exact .jumpLink _ _ _ _ _ rfl hl⟩
  | cAdd _ _ => exact ⟨_, rfl, .whenEnabled _ _ _ _ fun he => by have hl := lenOk_half _ _ he (by simp [Instr.row]); exact .result _ _ _ rfl (.inl rfl) hl⟩
  | cFsdsp _ _ => exact ⟨_, rfl, .whenEnabled _ _ _ _ fun he => by have hl := lenOk_half _ _ he (by simp [Instr.row]); exact .fstore _ _ _ _ _ _ _ rfl rfl hl⟩
  | cSwsp _ _ => exact ⟨_, rfl, .whenEnabled _ _ _ _ fun he => by have hl := lenOk_half _ _ he (by simp [Instr.row]); exact .storeOp _ _ _ _ _ _ rfl rfl hl⟩
  | cFswsp _ _ => exact ⟨_, rfl, .whenEnabled _ _ _ _ fun he => by have hl := lenOk_half _ _ he (by simp [Instr.row]); exact .fstore _ _ _ _ _ _ _ rfl rfl hl⟩
  | cSdsp _ _ => exact ⟨_, rfl, .whenEnabled _ _ _ _ fun he => by have hl := lenOk_half _ _ he (by simp [Instr.row]); exact .storeOp _ _ _ _ _ _ rfl rfl hl⟩

/-- The effect of an instruction that answers a next state. -/
theorem effect_of_exec (i : Instr) (s t : State) (h : exec i s = .next t) : Effect i s t := by
  obtain ⟨u, hu, he⟩ := exec_effect i s
  rw [h] at hu
  cases hu
  exact he

end Sys2Proof.Machine
end

