-- ==== Sys2Proof/Laws/PerInstr.lean ====
section
/-! SUPPORT. Facts about every instruction as syntax, one lemma per constructor: the length of its encoding is told by
the low two bits (30_encoding.md R150), and it is half a word exactly when its row needs the C extension. -/

namespace Sys2Proof.Laws

theorem low_op {m : Nat} (a : BitVec m) (b : BitVec 7) : (a ++ b).extractLsb' 0 2 = b.extractLsb' 0 2 := by
  ext i hi
  simp only [BitVec.getElem_extractLsb', BitVec.getLsbD_append]
  rw [if_pos (by omega)]

theorem low_two {m : Nat} (a : BitVec m) (b : BitVec 2) : (a ++ b).extractLsb' 0 2 = b := by
  ext i hi
  simp only [BitVec.getElem_extractLsb', BitVec.getLsbD_append]
  rw [if_pos (by omega), Nat.zero_add, ← BitVec.getLsbD_eq_getElem]

theorem encR_low (f7 : BitVec 7) (rs2 : Reg) (rs1 : Reg) (f3 : BitVec 3) (rd : Reg) (op : BitVec 7) :
    (encR f7 rs2 rs1 f3 rd op).extractLsb' 0 2 = op.extractLsb' 0 2 :=
  low_op _ _

theorem encR4_low (rs3 : Reg) (fmt : BitVec 2) (rs2 : Reg) (rs1 : Reg) (rm : BitVec 3) (rd : Reg) (op : BitVec 7) :
    (encR4 rs3 fmt rs2 rs1 rm rd op).extractLsb' 0 2 = op.extractLsb' 0 2 :=
  low_op _ _

theorem encAmo_low (f5 : BitVec 5) (aq : Bool) (rl : Bool) (rs2 : Reg) (rs1 : Reg) (f3 : BitVec 3) (rd : Reg) (op : BitVec 7) :
    (encAmo f5 aq rl rs2 rs1 f3 rd op).extractLsb' 0 2 = op.extractLsb' 0 2 :=
  low_op _ _

theorem encShift_low (f6 : BitVec 6) (shamt : BitVec 6) (rs1 : Reg) (f3 : BitVec 3) (rd : Reg) (op : BitVec 7) :
    (encShift f6 shamt rs1 f3 rd op).extractLsb' 0 2 = op.extractLsb' 0 2 :=
  low_op _ _

theorem encI_low (imm : BitVec 12) (rs1 : Reg) (f3 : BitVec 3) (rd : Reg) (op : BitVec 7) :
    (encI imm rs1 f3 rd op).extractLsb' 0 2 = op.extractLsb' 0 2 :=
  low_op _ _

theorem encS_low (imm : BitVec 12) (rs2 : Reg) (rs1 : Reg) (f3 : BitVec 3) (op : BitVec 7) :
    (encS imm rs2 rs1 f3 op).extractLsb' 0 2 = op.extractLsb' 0 2 :=
  low_op _ _

theorem encB_low (off : BitVec 12) (rs2 : Reg) (rs1 : Reg) (f3 : BitVec 3) (op : BitVec 7) :
    (encB off rs2 rs1 f3 op).extractLsb' 0 2 = op.extractLsb' 0 2 :=
  low_op _ _

theorem encU_low (imm : BitVec 20) (rd : Reg) (op : BitVec 7) :
    (encU imm rd op).extractLsb' 0 2 = op.extractLsb' 0 2 :=
  low_op _ _

theorem encJ_low (off : BitVec 20) (rd : Reg) (op : BitVec 7) :
    (encJ off rd op).extractLsb' 0 2 = op.extractLsb' 0 2 :=
  low_op _ _

theorem encCIW_low (imm : BitVec 8) (rd : CReg) :
    (encCIW imm rd).extractLsb' 0 2 = 0b00#2 :=
  low_two _ _

theorem encCW_low (f3 : BitVec 3) (u : BitVec 5) (rs1 : CReg) (r2 : CReg) (op : BitVec 2) :
    (encCW f3 u rs1 r2 op).extractLsb' 0 2 = op :=
  low_two _ _

theorem encCD_low (f3 : BitVec 3) (u : BitVec 5) (rs1 : CReg) (r2 : CReg) (op : BitVec 2) :
    (encCD f3 u rs1 r2 op).extractLsb' 0 2 = op :=
  low_two _ _

theorem encCI_low (f3 : BitVec 3) (imm : BitVec 6) (rd : Reg) (op : BitVec 2) :
    (encCI f3 imm rd op).extractLsb' 0 2 = op :=
  low_two _ _

theorem encCAddi16sp_low (imm : BitVec 6) :
    (encCAddi16sp imm).extractLsb' 0 2 = 0b01#2 :=
  low_two _ _

theorem encCBAlu_low (f3 : BitVec 3) (f2 : BitVec 2) (imm : BitVec 6) (rd : CReg) (op : BitVec 2) :
    (encCBAlu f3 f2 imm rd op).extractLsb' 0 2 = op :=
  low_two _ _

theorem encCA_low (f6 : BitVec 6) (rd : CReg) (f2 : BitVec 2) (rs2 : CReg) (op : BitVec 2) :
    (encCA f6 rd f2 rs2 op).extractLsb' 0 2 = op :=
  low_two _ _

theorem encCJ_low (f3 : BitVec 3) (off : BitVec 11) (op : BitVec 2) :
    (encCJ f3 off op).extractLsb' 0 2 = op :=
  low_two _ _

theorem encCB_low (f3 : BitVec 3) (off : BitVec 8) (rs1 : CReg) (op : BitVec 2) :
    (encCB f3 off rs1 op).extractLsb' 0 2 = op :=
  low_two _ _

theorem encCLwsp_low (f3 : BitVec 3) (u : BitVec 6) (rd : Reg) (op : BitVec 2) :
    (encCLwsp f3 u rd op).extractLsb' 0 2 = op :=
  low_two _ _

theorem encCLdsp_low (f3 : BitVec 3) (u : BitVec 6) (rd : Reg) (op : BitVec 2) :
    (encCLdsp f3 u rd op).extractLsb' 0 2 = op :=
  low_two _ _

theorem encCSwsp_low (f3 : BitVec 3) (u : BitVec 6) (rs2 : Reg) (op : BitVec 2) :
    (encCSwsp f3 u rs2 op).extractLsb' 0 2 = op :=
  low_two _ _

theorem encCSdsp_low (f3 : BitVec 3) (u : BitVec 6) (rs2 : Reg) (op : BitVec 2) :
    (encCSdsp f3 u rs2 op).extractLsb' 0 2 = op :=
  low_two _ _

theorem encCR_low (f4 : BitVec 4) (rd : Reg) (rs2 : Reg) (op : BitVec 2) :
    (encCR f4 rd rs2 op).extractLsb' 0 2 = op :=
  low_two _ _

/-- The row needs the C extension. -/
def extIsC : Ext → Bool
  | .c | .cf | .cd => true
  | .base | .m | .a | .f | .d => false

/-- The low two bits tell the length. -/
def Length.Statement (i : Instr) : Prop :=
  match encode i with
  | .half h => isFull h = false ∧ extIsC i.row.ext = true
  | .full w => isFull (w.extractLsb' 0 16) = true ∧ extIsC i.row.ext = false

theorem isFull_word (w : BitVec 32) : isFull (w.extractLsb' 0 16) = (w.extractLsb' 0 2 == 3) := by
  simp [isFull]

theorem length_of_full {i : Instr} {w : BitVec 32} (he : encode i = .full w) (hw : (w.extractLsb' 0 2 == 3) = true)
    (hx : extIsC i.row.ext = false) : Length.Statement i := by
  unfold Length.Statement; rw [he]; exact ⟨(isFull_word w).trans hw, hx⟩

theorem length_of_half {i : Instr} {h : BitVec 16} {b : BitVec 2} (he : encode i = .half h) (hw : h.extractLsb' 0 2 = b)
    (hb : (b == 3) = false) (hx : extIsC i.row.ext = true) : Length.Statement i := by
  unfold Length.Statement; rw [he]; exact ⟨by unfold isFull; rw [hw]; exact hb, hx⟩

theorem beq_three {b c : BitVec 2} (h : b = c) (hc : (c == 3) = true) : (b == 3) = true := h ▸ hc

theorem Length.lui (rd : Reg) (imm : BitVec 20) : Length.Statement (.lui rd imm) :=
  length_of_full rfl (beq_three (encU_low _ _ _) rfl) rfl
theorem Length.auipc (rd : Reg) (imm : BitVec 20) : Length.Statement (.auipc rd imm) :=
  length_of_full rfl (beq_three (encU_low _ _ _) rfl) rfl
theorem Length.jal (rd : Reg) (off : BitVec 20) : Length.Statement (.jal rd off) :=
  length_of_full rfl (beq_three (encJ_low _ _ _) rfl) rfl
theorem Length.jalr (rd rs1 : Reg) (imm : BitVec 12) : Length.Statement (.jalr rd rs1 imm) :=
  length_of_full rfl (beq_three (encI_low _ _ _ _ _) rfl) rfl
theorem Length.beq (rs1 rs2 : Reg) (off : BitVec 12) : Length.Statement (.beq rs1 rs2 off) :=
  length_of_full rfl (beq_three (encB_low _ _ _ _ _) rfl) rfl
theorem Length.bne (rs1 rs2 : Reg) (off : BitVec 12) : Length.Statement (.bne rs1 rs2 off) :=
  length_of_full rfl (beq_three (encB_low _ _ _ _ _) rfl) rfl
theorem Length.blt (rs1 rs2 : Reg) (off : BitVec 12) : Length.Statement (.blt rs1 rs2 off) :=
  length_of_full rfl (beq_three (encB_low _ _ _ _ _) rfl) rfl
theorem Length.bge (rs1 rs2 : Reg) (off : BitVec 12) : Length.Statement (.bge rs1 rs2 off) :=
  length_of_full rfl (beq_three (encB_low _ _ _ _ _) rfl) rfl
theorem Length.bltu (rs1 rs2 : Reg) (off : BitVec 12) : Length.Statement (.bltu rs1 rs2 off) :=
  length_of_full rfl (beq_three (encB_low _ _ _ _ _) rfl) rfl
theorem Length.bgeu (rs1 rs2 : Reg) (off : BitVec 12) : Length.Statement (.bgeu rs1 rs2 off) :=
  length_of_full rfl (beq_three (encB_low _ _ _ _ _) rfl) rfl
theorem Length.lb (rd rs1 : Reg) (imm : BitVec 12) : Length.Statement (.lb rd rs1 imm) :=
  length_of_full rfl (beq_three (encI_low _ _ _ _ _) rfl) rfl
theorem Length.lh (rd rs1 : Reg) (imm : BitVec 12) : Length.Statement (.lh rd rs1 imm) :=
  length_of_full rfl (beq_three (encI_low _ _ _ _ _) rfl) rfl
theorem Length.lw (rd rs1 : Reg) (imm : BitVec 12) : Length.Statement (.lw rd rs1 imm) :=
  length_of_full rfl (beq_three (encI_low _ _ _ _ _) rfl) rfl
theorem Length.ld (rd rs1 : Reg) (imm : BitVec 12) : Length.Statement (.ld rd rs1 imm) :=
  length_of_full rfl (beq_three (encI_low _ _ _ _ _) rfl) rfl
theorem Length.lbu (rd rs1 : Reg) (imm : BitVec 12) : Length.Statement (.lbu rd rs1 imm) :=
  length_of_full rfl (beq_three (encI_low _ _ _ _ _) rfl) rfl
theorem Length.lhu (rd rs1 : Reg) (imm : BitVec 12) : Length.Statement (.lhu rd rs1 imm) :=
  length_of_full rfl (beq_three (encI_low _ _ _ _ _) rfl) rfl
theorem Length.lwu (rd rs1 : Reg) (imm : BitVec 12) : Length.Statement (.lwu rd rs1 imm) :=
  length_of_full rfl (beq_three (encI_low _ _ _ _ _) rfl) rfl
theorem Length.sb (rs1 rs2 : Reg) (imm : BitVec 12) : Length.Statement (.sb rs1 rs2 imm) :=
  length_of_full rfl (beq_three (encS_low _ _ _ _ _) rfl) rfl
theorem Length.sh (rs1 rs2 : Reg) (imm : BitVec 12) : Length.Statement (.sh rs1 rs2 imm) :=
  length_of_full rfl (beq_three (encS_low _ _ _ _ _) rfl) rfl
theorem Length.sw (rs1 rs2 : Reg) (imm : BitVec 12) : Length.Statement (.sw rs1 rs2 imm) :=
  length_of_full rfl (beq_three (encS_low _ _ _ _ _) rfl) rfl
theorem Length.sd (rs1 rs2 : Reg) (imm : BitVec 12) : Length.Statement (.sd rs1 rs2 imm) :=
  length_of_full rfl (beq_three (encS_low _ _ _ _ _) rfl) rfl
theorem Length.addi (rd rs1 : Reg) (imm : BitVec 12) : Length.Statement (.addi rd rs1 imm) :=
  length_of_full rfl (beq_three (encI_low _ _ _ _ _) rfl) rfl
theorem Length.slti (rd rs1 : Reg) (imm : BitVec 12) : Length.Statement (.slti rd rs1 imm) :=
  length_of_full rfl (beq_three (encI_low _ _ _ _ _) rfl) rfl
theorem Length.sltiu (rd rs1 : Reg) (imm : BitVec 12) : Length.Statement (.sltiu rd rs1 imm) :=
  length_of_full rfl (beq_three (encI_low _ _ _ _ _) rfl) rfl
theorem Length.xori (rd rs1 : Reg) (imm : BitVec 12) : Length.Statement (.xori rd rs1 imm) :=
  length_of_full rfl (beq_three (encI_low _ _ _ _ _) rfl) rfl
theorem Length.ori (rd rs1 : Reg) (imm : BitVec 12) : Length.Statement (.ori rd rs1 imm) :=
  length_of_full rfl (beq_three (encI_low _ _ _ _ _) rfl) rfl
theorem Length.andi (rd rs1 : Reg) (imm : BitVec 12) : Length.Statement (.andi rd rs1 imm) :=
  length_of_full rfl (beq_three (encI_low _ _ _ _ _) rfl) rfl
theorem Length.slli (rd rs1 : Reg) (shamt : BitVec 6) : Length.Statement (.slli rd rs1 shamt) :=
  length_of_full rfl (beq_three (encShift_low _ _ _ _ _ _) rfl) rfl
theorem Length.srli (rd rs1 : Reg) (shamt : BitVec 6) : Length.Statement (.srli rd rs1 shamt) :=
  length_of_full rfl (beq_three (encShift_low _ _ _ _ _ _) rfl) rfl
theorem Length.srai (rd rs1 : Reg) (shamt : BitVec 6) : Length.Statement (.srai rd rs1 shamt) :=
  length_of_full rfl (beq_three (encShift_low _ _ _ _ _ _) rfl) rfl
theorem Length.add (rd rs1 rs2 : Reg) : Length.Statement (.add rd rs1 rs2) :=
  length_of_full rfl (beq_three (encR_low _ _ _ _ _ _) rfl) rfl
theorem Length.sub (rd rs1 rs2 : Reg) : Length.Statement (.sub rd rs1 rs2) :=
  length_of_full rfl (beq_three (encR_low _ _ _ _ _ _) rfl) rfl
theorem Length.sll (rd rs1 rs2 : Reg) : Length.Statement (.sll rd rs1 rs2) :=
  length_of_full rfl (beq_three (encR_low _ _ _ _ _ _) rfl) rfl
theorem Length.slt (rd rs1 rs2 : Reg) : Length.Statement (.slt rd rs1 rs2) :=
  length_of_full rfl (beq_three (encR_low _ _ _ _ _ _) rfl) rfl
theorem Length.sltu (rd rs1 rs2 : Reg) : Length.Statement (.sltu rd rs1 rs2) :=
  length_of_full rfl (beq_three (encR_low _ _ _ _ _ _) rfl) rfl
theorem Length.xor (rd rs1 rs2 : Reg) : Length.Statement (.xor rd rs1 rs2) :=
  length_of_full rfl (beq_three (encR_low _ _ _ _ _ _) rfl) rfl
theorem Length.srl (rd rs1 rs2 : Reg) : Length.Statement (.srl rd rs1 rs2) :=
  length_of_full rfl (beq_three (encR_low _ _ _ _ _ _) rfl) rfl
theorem Length.sra (rd rs1 rs2 : Reg) : Length.Statement (.sra rd rs1 rs2) :=
  length_of_full rfl (beq_three (encR_low _ _ _ _ _ _) rfl) rfl
theorem Length.or (rd rs1 rs2 : Reg) : Length.Statement (.or rd rs1 rs2) :=
  length_of_full rfl (beq_three (encR_low _ _ _ _ _ _) rfl) rfl
theorem Length.and (rd rs1 rs2 : Reg) : Length.Statement (.and rd rs1 rs2) :=
  length_of_full rfl (beq_three (encR_low _ _ _ _ _ _) rfl) rfl
theorem Length.addiw (rd rs1 : Reg) (imm : BitVec 12) : Length.Statement (.addiw rd rs1 imm) :=
  length_of_full rfl (beq_three (encI_low _ _ _ _ _) rfl) rfl
theorem Length.slliw (rd rs1 : Reg) (shamt : BitVec 5) : Length.Statement (.slliw rd rs1 shamt) :=
  length_of_full rfl (beq_three (encR_low _ _ _ _ _ _) rfl) rfl
theorem Length.srliw (rd rs1 : Reg) (shamt : BitVec 5) : Length.Statement (.srliw rd rs1 shamt) :=
  length_of_full rfl (beq_three (encR_low _ _ _ _ _ _) rfl) rfl
theorem Length.sraiw (rd rs1 : Reg) (shamt : BitVec 5) : Length.Statement (.sraiw rd rs1 shamt) :=
  length_of_full rfl (beq_three (encR_low _ _ _ _ _ _) rfl) rfl
theorem Length.addw (rd rs1 rs2 : Reg) : Length.Statement (.addw rd rs1 rs2) :=
  length_of_full rfl (beq_three (encR_low _ _ _ _ _ _) rfl) rfl
theorem Length.subw (rd rs1 rs2 : Reg) : Length.Statement (.subw rd rs1 rs2) :=
  length_of_full rfl (beq_three (encR_low _ _ _ _ _ _) rfl) rfl
theorem Length.sllw (rd rs1 rs2 : Reg) : Length.Statement (.sllw rd rs1 rs2) :=
  length_of_full rfl (beq_three (encR_low _ _ _ _ _ _) rfl) rfl
theorem Length.srlw (rd rs1 rs2 : Reg) : Length.Statement (.srlw rd rs1 rs2) :=
  length_of_full rfl (beq_three (encR_low _ _ _ _ _ _) rfl) rfl
theorem Length.sraw (rd rs1 rs2 : Reg) : Length.Statement (.sraw rd rs1 rs2) :=
  length_of_full rfl (beq_three (encR_low _ _ _ _ _ _) rfl) rfl
theorem Length.fence (fm pred succ : BitVec 4) (rs1 rd : Reg) : Length.Statement (.fence fm pred succ rs1 rd) :=
  length_of_full rfl (beq_three (encI_low _ _ _ _ _) rfl) rfl
theorem Length.fenceI (imm : BitVec 12) (rs1 rd : Reg) : Length.Statement (.fenceI imm rs1 rd) :=
  length_of_full rfl (beq_three (encI_low _ _ _ _ _) rfl) rfl
theorem Length.ecall : Length.Statement (.ecall) :=
  length_of_full rfl (beq_three (encI_low _ _ _ _ _) rfl) rfl
theorem Length.ebreak : Length.Statement (.ebreak) :=
  length_of_full rfl (beq_three (encI_low _ _ _ _ _) rfl) rfl
theorem Length.csrrw (rd : Reg) (csr : BitVec 12) (rs1 : Reg) : Length.Statement (.csrrw rd csr rs1) :=
  length_of_full rfl (beq_three (encI_low _ _ _ _ _) rfl) rfl
theorem Length.csrrs (rd : Reg) (csr : BitVec 12) (rs1 : Reg) : Length.Statement (.csrrs rd csr rs1) :=
  length_of_full rfl (beq_three (encI_low _ _ _ _ _) rfl) rfl
theorem Length.csrrc (rd : Reg) (csr : BitVec 12) (rs1 : Reg) : Length.Statement (.csrrc rd csr rs1) :=
  length_of_full rfl (beq_three (encI_low _ _ _ _ _) rfl) rfl
theorem Length.csrrwi (rd : Reg) (csr : BitVec 12) (uimm : BitVec 5) : Length.Statement (.csrrwi rd csr uimm) :=
  length_of_full rfl (beq_three (encI_low _ _ _ _ _) rfl) rfl
theorem Length.csrrsi (rd : Reg) (csr : BitVec 12) (uimm : BitVec 5) : Length.Statement (.csrrsi rd csr uimm) :=
  length_of_full rfl (beq_three (encI_low _ _ _ _ _) rfl) rfl
theorem Length.csrrci (rd : Reg) (csr : BitVec 12) (uimm : BitVec 5) : Length.Statement (.csrrci rd csr uimm) :=
  length_of_full rfl (beq_three (encI_low _ _ _ _ _) rfl) rfl
theorem Length.sret : Length.Statement (.sret) :=
  length_of_full rfl (beq_three (encI_low _ _ _ _ _) rfl) rfl
theorem Length.mret : Length.Statement (.mret) :=
  length_of_full rfl (beq_three (encI_low _ _ _ _ _) rfl) rfl
theorem Length.wfi : Length.Statement (.wfi) :=
  length_of_full rfl (beq_three (encI_low _ _ _ _ _) rfl) rfl
theorem Length.sfenceVma (rs1 rs2 : Reg) : Length.Statement (.sfenceVma rs1 rs2) :=
  length_of_full rfl (beq_three (encR_low _ _ _ _ _ _) rfl) rfl
theorem Length.mul (rd rs1 rs2 : Reg) : Length.Statement (.mul rd rs1 rs2) :=
  length_of_full rfl (beq_three (encR_low _ _ _ _ _ _) rfl) rfl
theorem Length.mulh (rd rs1 rs2 : Reg) : Length.Statement (.mulh rd rs1 rs2) :=
  length_of_full rfl (beq_three (encR_low _ _ _ _ _ _) rfl) rfl
theorem Length.mulhsu (rd rs1 rs2 : Reg) : Length.Statement (.mulhsu rd rs1 rs2) :=
  length_of_full rfl (beq_three (encR_low _ _ _ _ _ _) rfl) rfl
theorem Length.mulhu (rd rs1 rs2 : Reg) : Length.Statement (.mulhu rd rs1 rs2) :=
  length_of_full rfl (beq_three (encR_low _ _ _ _ _ _) rfl) rfl
theorem Length.div (rd rs1 rs2 : Reg) : Length.Statement (.div rd rs1 rs2) :=
  length_of_full rfl (beq_three (encR_low _ _ _ _ _ _) rfl) rfl
theorem Length.divu (rd rs1 rs2 : Reg) : Length.Statement (.divu rd rs1 rs2) :=
  length_of_full rfl (beq_three (encR_low _ _ _ _ _ _) rfl) rfl
theorem Length.rem (rd rs1 rs2 : Reg) : Length.Statement (.rem rd rs1 rs2) :=
  length_of_full rfl (beq_three (encR_low _ _ _ _ _ _) rfl) rfl
theorem Length.remu (rd rs1 rs2 : Reg) : Length.Statement (.remu rd rs1 rs2) :=
  length_of_full rfl (beq_three (encR_low _ _ _ _ _ _) rfl) rfl
theorem Length.mulw (rd rs1 rs2 : Reg) : Length.Statement (.mulw rd rs1 rs2) :=
  length_of_full rfl (beq_three (encR_low _ _ _ _ _ _) rfl) rfl
theorem Length.divw (rd rs1 rs2 : Reg) : Length.Statement (.divw rd rs1 rs2) :=
  length_of_full rfl (beq_three (encR_low _ _ _ _ _ _) rfl) rfl
theorem Length.divuw (rd rs1 rs2 : Reg) : Length.Statement (.divuw rd rs1 rs2) :=
  length_of_full rfl (beq_three (encR_low _ _ _ _ _ _) rfl) rfl
theorem Length.remw (rd rs1 rs2 : Reg) : Length.Statement (.remw rd rs1 rs2) :=
  length_of_full rfl (beq_three (encR_low _ _ _ _ _ _) rfl) rfl
theorem Length.remuw (rd rs1 rs2 : Reg) : Length.Statement (.remuw rd rs1 rs2) :=
  length_of_full rfl (beq_three (encR_low _ _ _ _ _ _) rfl) rfl
theorem Length.lrW (rd rs1 : Reg) (aq rl : Bool) : Length.Statement (.lrW rd rs1 aq rl) :=
  length_of_full rfl (beq_three (encAmo_low _ _ _ _ _ _ _ _) rfl) rfl
theorem Length.scW (rd rs1 rs2 : Reg) (aq rl : Bool) : Length.Statement (.scW rd rs1 rs2 aq rl) :=
  length_of_full rfl (beq_three (encAmo_low _ _ _ _ _ _ _ _) rfl) rfl
theorem Length.amoaddW (rd rs1 rs2 : Reg) (aq rl : Bool) : Length.Statement (.amoaddW rd rs1 rs2 aq rl) :=
  length_of_full rfl (beq_three (encAmo_low _ _ _ _ _ _ _ _) rfl) rfl
theorem Length.amoswapW (rd rs1 rs2 : Reg) (aq rl : Bool) : Length.Statement (.amoswapW rd rs1 rs2 aq rl) :=
  length_of_full rfl (beq_three (encAmo_low _ _ _ _ _ _ _ _) rfl) rfl
theorem Length.amoxorW (rd rs1 rs2 : Reg) (aq rl : Bool) : Length.Statement (.amoxorW rd rs1 rs2 aq rl) :=
  length_of_full rfl (beq_three (encAmo_low _ _ _ _ _ _ _ _) rfl) rfl
theorem Length.amoorW (rd rs1 rs2 : Reg) (aq rl : Bool) : Length.Statement (.amoorW rd rs1 rs2 aq rl) :=
  length_of_full rfl (beq_three (encAmo_low _ _ _ _ _ _ _ _) rfl) rfl
theorem Length.amoandW (rd rs1 rs2 : Reg) (aq rl : Bool) : Length.Statement (.amoandW rd rs1 rs2 aq rl) :=
  length_of_full rfl (beq_three (encAmo_low _ _ _ _ _ _ _ _) rfl) rfl
theorem Length.amominW (rd rs1 rs2 : Reg) (aq rl : Bool) : Length.Statement (.amominW rd rs1 rs2 aq rl) :=
  length_of_full rfl (beq_three (encAmo_low _ _ _ _ _ _ _ _) rfl) rfl
theorem Length.amomaxW (rd rs1 rs2 : Reg) (aq rl : Bool) : Length.Statement (.amomaxW rd rs1 rs2 aq rl) :=
  length_of_full rfl (beq_three (encAmo_low _ _ _ _ _ _ _ _) rfl) rfl
theorem Length.amominuW (rd rs1 rs2 : Reg) (aq rl : Bool) : Length.Statement (.amominuW rd rs1 rs2 aq rl) :=
  length_of_full rfl (beq_three (encAmo_low _ _ _ _ _ _ _ _) rfl) rfl
theorem Length.amomaxuW (rd rs1 rs2 : Reg) (aq rl : Bool) : Length.Statement (.amomaxuW rd rs1 rs2 aq rl) :=
  length_of_full rfl (beq_three (encAmo_low _ _ _ _ _ _ _ _) rfl) rfl
theorem Length.lrD (rd rs1 : Reg) (aq rl : Bool) : Length.Statement (.lrD rd rs1 aq rl) :=
  length_of_full rfl (beq_three (encAmo_low _ _ _ _ _ _ _ _) rfl) rfl
theorem Length.scD (rd rs1 rs2 : Reg) (aq rl : Bool) : Length.Statement (.scD rd rs1 rs2 aq rl) :=
  length_of_full rfl (beq_three (encAmo_low _ _ _ _ _ _ _ _) rfl) rfl
theorem Length.amoaddD (rd rs1 rs2 : Reg) (aq rl : Bool) : Length.Statement (.amoaddD rd rs1 rs2 aq rl) :=
  length_of_full rfl (beq_three (encAmo_low _ _ _ _ _ _ _ _) rfl) rfl
theorem Length.amoswapD (rd rs1 rs2 : Reg) (aq rl : Bool) : Length.Statement (.amoswapD rd rs1 rs2 aq rl) :=
  length_of_full rfl (beq_three (encAmo_low _ _ _ _ _ _ _ _) rfl) rfl
theorem Length.amoxorD (rd rs1 rs2 : Reg) (aq rl : Bool) : Length.Statement (.amoxorD rd rs1 rs2 aq rl) :=
  length_of_full rfl (beq_three (encAmo_low _ _ _ _ _ _ _ _) rfl) rfl
theorem Length.amoorD (rd rs1 rs2 : Reg) (aq rl : Bool) : Length.Statement (.amoorD rd rs1 rs2 aq rl) :=
  length_of_full rfl (beq_three (encAmo_low _ _ _ _ _ _ _ _) rfl) rfl
theorem Length.amoandD (rd rs1 rs2 : Reg) (aq rl : Bool) : Length.Statement (.amoandD rd rs1 rs2 aq rl) :=
  length_of_full rfl (beq_three (encAmo_low _ _ _ _ _ _ _ _) rfl) rfl
theorem Length.amominD (rd rs1 rs2 : Reg) (aq rl : Bool) : Length.Statement (.amominD rd rs1 rs2 aq rl) :=
  length_of_full rfl (beq_three (encAmo_low _ _ _ _ _ _ _ _) rfl) rfl
theorem Length.amomaxD (rd rs1 rs2 : Reg) (aq rl : Bool) : Length.Statement (.amomaxD rd rs1 rs2 aq rl) :=
  length_of_full rfl (beq_three (encAmo_low _ _ _ _ _ _ _ _) rfl) rfl
theorem Length.amominuD (rd rs1 rs2 : Reg) (aq rl : Bool) : Length.Statement (.amominuD rd rs1 rs2 aq rl) :=
  length_of_full rfl (beq_three (encAmo_low _ _ _ _ _ _ _ _) rfl) rfl
theorem Length.amomaxuD (rd rs1 rs2 : Reg) (aq rl : Bool) : Length.Statement (.amomaxuD rd rs1 rs2 aq rl) :=
  length_of_full rfl (beq_three (encAmo_low _ _ _ _ _ _ _ _) rfl) rfl
theorem Length.flw (rd rs1 : Reg) (imm : BitVec 12) : Length.Statement (.flw rd rs1 imm) :=
  length_of_full rfl (beq_three (encI_low _ _ _ _ _) rfl) rfl
theorem Length.fsw (rs1 rs2 : Reg) (imm : BitVec 12) : Length.Statement (.fsw rs1 rs2 imm) :=
  length_of_full rfl (beq_three (encS_low _ _ _ _ _) rfl) rfl
theorem Length.fmaddS (rd rs1 rs2 rs3 : Reg) (rm : BitVec 3) : Length.Statement (.fmaddS rd rs1 rs2 rs3 rm) :=
  length_of_full rfl (beq_three (encR4_low _ _ _ _ _ _ _) rfl) rfl
theorem Length.fmsubS (rd rs1 rs2 rs3 : Reg) (rm : BitVec 3) : Length.Statement (.fmsubS rd rs1 rs2 rs3 rm) :=
  length_of_full rfl (beq_three (encR4_low _ _ _ _ _ _ _) rfl) rfl
theorem Length.fnmsubS (rd rs1 rs2 rs3 : Reg) (rm : BitVec 3) : Length.Statement (.fnmsubS rd rs1 rs2 rs3 rm) :=
  length_of_full rfl (beq_three (encR4_low _ _ _ _ _ _ _) rfl) rfl
theorem Length.fnmaddS (rd rs1 rs2 rs3 : Reg) (rm : BitVec 3) : Length.Statement (.fnmaddS rd rs1 rs2 rs3 rm) :=
  length_of_full rfl (beq_three (encR4_low _ _ _ _ _ _ _) rfl) rfl
theorem Length.faddS (rd rs1 rs2 : Reg) (rm : BitVec 3) : Length.Statement (.faddS rd rs1 rs2 rm) :=
  length_of_full rfl (beq_three (encR_low _ _ _ _ _ _) rfl) rfl
theorem Length.fsubS (rd rs1 rs2 : Reg) (rm : BitVec 3) : Length.Statement (.fsubS rd rs1 rs2 rm) :=
  length_of_full rfl (beq_three (encR_low _ _ _ _ _ _) rfl) rfl
theorem Length.fmulS (rd rs1 rs2 : Reg) (rm : BitVec 3) : Length.Statement (.fmulS rd rs1 rs2 rm) :=
  length_of_full rfl (beq_three (encR_low _ _ _ _ _ _) rfl) rfl
theorem Length.fdivS (rd rs1 rs2 : Reg) (rm : BitVec 3) : Length.Statement (.fdivS rd rs1 rs2 rm) :=
  length_of_full rfl (beq_three (encR_low _ _ _ _ _ _) rfl) rfl
theorem Length.fsqrtS (rd rs1 : Reg) (rm : BitVec 3) : Length.Statement (.fsqrtS rd rs1 rm) :=
  length_of_full rfl (beq_three (encR_low _ _ _ _ _ _) rfl) rfl
theorem Length.fsgnjS (rd rs1 rs2 : Reg) : Length.Statement (.fsgnjS rd rs1 rs2) :=
  length_of_full rfl (beq_three (encR_low _ _ _ _ _ _) rfl) rfl
theorem Length.fsgnjnS (rd rs1 rs2 : Reg) : Length.Statement (.fsgnjnS rd rs1 rs2) :=
  length_of_full rfl (beq_three (encR_low _ _ _ _ _ _) rfl) rfl
theorem Length.fsgnjxS (rd rs1 rs2 : Reg) : Length.Statement (.fsgnjxS rd rs1 rs2) :=
  length_of_full rfl (beq_three (encR_low _ _ _ _ _ _) rfl) rfl
theorem Length.fminS (rd rs1 rs2 : Reg) : Length.Statement (.fminS rd rs1 rs2) :=
  length_of_full rfl (beq_three (encR_low _ _ _ _ _ _) rfl) rfl
theorem Length.fmaxS (rd rs1 rs2 : Reg) : Length.Statement (.fmaxS rd rs1 rs2) :=
  length_of_full rfl (beq_three (encR_low _ _ _ _ _ _) rfl) rfl
theorem Length.feqS (rd rs1 rs2 : Reg) : Length.Statement (.feqS rd rs1 rs2) :=
  length_of_full rfl (beq_three (encR_low _ _ _ _ _ _) rfl) rfl
theorem Length.fltS (rd rs1 rs2 : Reg) : Length.Statement (.fltS rd rs1 rs2) :=
  length_of_full rfl (beq_three (encR_low _ _ _ _ _ _) rfl) rfl
theorem Length.fleS (rd rs1 rs2 : Reg) : Length.Statement (.fleS rd rs1 rs2) :=
  length_of_full rfl (beq_three (encR_low _ _ _ _ _ _) rfl) rfl
theorem Length.fclassS (rd rs1 : Reg) : Length.Statement (.fclassS rd rs1) :=
  length_of_full rfl (beq_three (encR_low _ _ _ _ _ _) rfl) rfl
theorem Length.fcvtWS (rd rs1 : Reg) (rm : BitVec 3) : Length.Statement (.fcvtWS rd rs1 rm) :=
  length_of_full rfl (beq_three (encR_low _ _ _ _ _ _) rfl) rfl
theorem Length.fcvtSW (rd rs1 : Reg) (rm : BitVec 3) : Length.Statement (.fcvtSW rd rs1 rm) :=
  length_of_full rfl (beq_three (encR_low _ _ _ _ _ _) rfl) rfl
theorem Length.fcvtWuS (rd rs1 : Reg) (rm : BitVec 3) : Length.Statement (.fcvtWuS rd rs1 rm) :=
  length_of_full rfl (beq_three (encR_low _ _ _ _ _ _) rfl) rfl
theorem Length.fcvtSWu (rd rs1 : Reg) (rm : BitVec 3) : Length.Statement (.fcvtSWu rd rs1 rm) :=
  length_of_full rfl (beq_three (encR_low _ _ _ _ _ _) rfl) rfl
theorem Length.fcvtLS (rd rs1 : Reg) (rm : BitVec 3) : Length.Statement (.fcvtLS rd rs1 rm) :=
  length_of_full rfl (beq_three (encR_low _ _ _ _ _ _) rfl) rfl
theorem Length.fcvtSL (rd rs1 : Reg) (rm : BitVec 3) : Length.Statement (.fcvtSL rd rs1 rm) :=
  length_of_full rfl (beq_three (encR_low _ _ _ _ _ _) rfl) rfl
theorem Length.fcvtLuS (rd rs1 : Reg) (rm : BitVec 3) : Length.Statement (.fcvtLuS rd rs1 rm) :=
  length_of_full rfl (beq_three (encR_low _ _ _ _ _ _) rfl) rfl
theorem Length.fcvtSLu (rd rs1 : Reg) (rm : BitVec 3) : Length.Statement (.fcvtSLu rd rs1 rm) :=
  length_of_full rfl (beq_three (encR_low _ _ _ _ _ _) rfl) rfl
theorem Length.fmvXW (rd rs1 : Reg) : Length.Statement (.fmvXW rd rs1) :=
  length_of_full rfl (beq_three (encR_low _ _ _ _ _ _) rfl) rfl
theorem Length.fmvWX (rd rs1 : Reg) : Length.Statement (.fmvWX rd rs1) :=
  length_of_full rfl (beq_three (encR_low _ _ _ _ _ _) rfl) rfl
theorem Length.fld (rd rs1 : Reg) (imm : BitVec 12) : Length.Statement (.fld rd rs1 imm) :=
  length_of_full rfl (beq_three (encI_low _ _ _ _ _) rfl) rfl
theorem Length.fsd (rs1 rs2 : Reg) (imm : BitVec 12) : Length.Statement (.fsd rs1 rs2 imm) :=
  length_of_full rfl (beq_three (encS_low _ _ _ _ _) rfl) rfl
theorem Length.fmaddD (rd rs1 rs2 rs3 : Reg) (rm : BitVec 3) : Length.Statement (.fmaddD rd rs1 rs2 rs3 rm) :=
  length_of_full rfl (beq_three (encR4_low _ _ _ _ _ _ _) rfl) rfl
theorem Length.fmsubD (rd rs1 rs2 rs3 : Reg) (rm : BitVec 3) : Length.Statement (.fmsubD rd rs1 rs2 rs3 rm) :=
  length_of_full rfl (beq_three (encR4_low _ _ _ _ _ _ _) rfl) rfl
theorem Length.fnmsubD (rd rs1 rs2 rs3 : Reg) (rm : BitVec 3) : Length.Statement (.fnmsubD rd rs1 rs2 rs3 rm) :=
  length_of_full rfl (beq_three (encR4_low _ _ _ _ _ _ _) rfl) rfl
theorem Length.fnmaddD (rd rs1 rs2 rs3 : Reg) (rm : BitVec 3) : Length.Statement (.fnmaddD rd rs1 rs2 rs3 rm) :=
  length_of_full rfl (beq_three (encR4_low _ _ _ _ _ _ _) rfl) rfl
theorem Length.faddD (rd rs1 rs2 : Reg) (rm : BitVec 3) : Length.Statement (.faddD rd rs1 rs2 rm) :=
  length_of_full rfl (beq_three (encR_low _ _ _ _ _ _) rfl) rfl
theorem Length.fsubD (rd rs1 rs2 : Reg) (rm : BitVec 3) : Length.Statement (.fsubD rd rs1 rs2 rm) :=
  length_of_full rfl (beq_three (encR_low _ _ _ _ _ _) rfl) rfl
theorem Length.fmulD (rd rs1 rs2 : Reg) (rm : BitVec 3) : Length.Statement (.fmulD rd rs1 rs2 rm) :=
  length_of_full rfl (beq_three (encR_low _ _ _ _ _ _) rfl) rfl
theorem Length.fdivD (rd rs1 rs2 : Reg) (rm : BitVec 3) : Length.Statement (.fdivD rd rs1 rs2 rm) :=
  length_of_full rfl (beq_three (encR_low _ _ _ _ _ _) rfl) rfl
theorem Length.fsqrtD (rd rs1 : Reg) (rm : BitVec 3) : Length.Statement (.fsqrtD rd rs1 rm) :=
  length_of_full rfl (beq_three (encR_low _ _ _ _ _ _) rfl) rfl
theorem Length.fsgnjD (rd rs1 rs2 : Reg) : Length.Statement (.fsgnjD rd rs1 rs2) :=
  length_of_full rfl (beq_three (encR_low _ _ _ _ _ _) rfl) rfl
theorem Length.fsgnjnD (rd rs1 rs2 : Reg) : Length.Statement (.fsgnjnD rd rs1 rs2) :=
  length_of_full rfl (beq_three (encR_low _ _ _ _ _ _) rfl) rfl
theorem Length.fsgnjxD (rd rs1 rs2 : Reg) : Length.Statement (.fsgnjxD rd rs1 rs2) :=
  length_of_full rfl (beq_three (encR_low _ _ _ _ _ _) rfl) rfl
theorem Length.fminD (rd rs1 rs2 : Reg) : Length.Statement (.fminD rd rs1 rs2) :=
  length_of_full rfl (beq_three (encR_low _ _ _ _ _ _) rfl) rfl
theorem Length.fmaxD (rd rs1 rs2 : Reg) : Length.Statement (.fmaxD rd rs1 rs2) :=
  length_of_full rfl (beq_three (encR_low _ _ _ _ _ _) rfl) rfl
theorem Length.feqD (rd rs1 rs2 : Reg) : Length.Statement (.feqD rd rs1 rs2) :=
  length_of_full rfl (beq_three (encR_low _ _ _ _ _ _) rfl) rfl
theorem Length.fltD (rd rs1 rs2 : Reg) : Length.Statement (.fltD rd rs1 rs2) :=
  length_of_full rfl (beq_three (encR_low _ _ _ _ _ _) rfl) rfl
theorem Length.fleD (rd rs1 rs2 : Reg) : Length.Statement (.fleD rd rs1 rs2) :=
  length_of_full rfl (beq_three (encR_low _ _ _ _ _ _) rfl) rfl
theorem Length.fclassD (rd rs1 : Reg) : Length.Statement (.fclassD rd rs1) :=
  length_of_full rfl (beq_three (encR_low _ _ _ _ _ _) rfl) rfl
theorem Length.fcvtWD (rd rs1 : Reg) (rm : BitVec 3) : Length.Statement (.fcvtWD rd rs1 rm) :=
  length_of_full rfl (beq_three (encR_low _ _ _ _ _ _) rfl) rfl
theorem Length.fcvtDW (rd rs1 : Reg) (rm : BitVec 3) : Length.Statement (.fcvtDW rd rs1 rm) :=
  length_of_full rfl (beq_three (encR_low _ _ _ _ _ _) rfl) rfl
theorem Length.fcvtWuD (rd rs1 : Reg) (rm : BitVec 3) : Length.Statement (.fcvtWuD rd rs1 rm) :=
  length_of_full rfl (beq_three (encR_low _ _ _ _ _ _) rfl) rfl
theorem Length.fcvtDWu (rd rs1 : Reg) (rm : BitVec 3) : Length.Statement (.fcvtDWu rd rs1 rm) :=
  length_of_full rfl (beq_three (encR_low _ _ _ _ _ _) rfl) rfl
theorem Length.fcvtLD (rd rs1 : Reg) (rm : BitVec 3) : Length.Statement (.fcvtLD rd rs1 rm) :=
  length_of_full rfl (beq_three (encR_low _ _ _ _ _ _) rfl) rfl
theorem Length.fcvtDL (rd rs1 : Reg) (rm : BitVec 3) : Length.Statement (.fcvtDL rd rs1 rm) :=
  length_of_full rfl (beq_three (encR_low _ _ _ _ _ _) rfl) rfl
theorem Length.fcvtLuD (rd rs1 : Reg) (rm : BitVec 3) : Length.Statement (.fcvtLuD rd rs1 rm) :=
  length_of_full rfl (beq_three (encR_low _ _ _ _ _ _) rfl) rfl
theorem Length.fcvtDLu (rd rs1 : Reg) (rm : BitVec 3) : Length.Statement (.fcvtDLu rd rs1 rm) :=
  length_of_full rfl (beq_three (encR_low _ _ _ _ _ _) rfl) rfl
theorem Length.fcvtSD (rd rs1 : Reg) (rm : BitVec 3) : Length.Statement (.fcvtSD rd rs1 rm) :=
  length_of_full rfl (beq_three (encR_low _ _ _ _ _ _) rfl) rfl
theorem Length.fcvtDS (rd rs1 : Reg) (rm : BitVec 3) : Length.Statement (.fcvtDS rd rs1 rm) :=
  length_of_full rfl (beq_three (encR_low _ _ _ _ _ _) rfl) rfl
theorem Length.fmvXD (rd rs1 : Reg) : Length.Statement (.fmvXD rd rs1) :=
  length_of_full rfl (beq_three (encR_low _ _ _ _ _ _) rfl) rfl
theorem Length.fmvDX (rd rs1 : Reg) : Length.Statement (.fmvDX rd rs1) :=
  length_of_full rfl (beq_three (encR_low _ _ _ _ _ _) rfl) rfl
theorem Length.cAddi4spn (rd : CReg) (imm : BitVec 8) : Length.Statement (.cAddi4spn rd imm) :=
  length_of_half rfl (encCIW_low _ _) rfl rfl
theorem Length.cFld (rd rs1 : CReg) (uimm : BitVec 5) : Length.Statement (.cFld rd rs1 uimm) :=
  length_of_half rfl (encCD_low _ _ _ _ _) rfl rfl
theorem Length.cLw (rd rs1 : CReg) (uimm : BitVec 5) : Length.Statement (.cLw rd rs1 uimm) :=
  length_of_half rfl (encCW_low _ _ _ _ _) rfl rfl
theorem Length.cFlw (rd rs1 : CReg) (uimm : BitVec 5) : Length.Statement (.cFlw rd rs1 uimm) :=
  length_of_half rfl (encCW_low _ _ _ _ _) rfl rfl
theorem Length.cLd (rd rs1 : CReg) (uimm : BitVec 5) : Length.Statement (.cLd rd rs1 uimm) :=
  length_of_half rfl (encCD_low _ _ _ _ _) rfl rfl
theorem Length.cFsd (rs1 rs2 : CReg) (uimm : BitVec 5) : Length.Statement (.cFsd rs1 rs2 uimm) :=
  length_of_half rfl (encCD_low _ _ _ _ _) rfl rfl
theorem Length.cSw (rs1 rs2 : CReg) (uimm : BitVec 5) : Length.Statement (.cSw rs1 rs2 uimm) :=
  length_of_half rfl (encCW_low _ _ _ _ _) rfl rfl
theorem Length.cFsw (rs1 rs2 : CReg) (uimm : BitVec 5) : Length.Statement (.cFsw rs1 rs2 uimm) :=
  length_of_half rfl (encCW_low _ _ _ _ _) rfl rfl
theorem Length.cSd (rs1 rs2 : CReg) (uimm : BitVec 5) : Length.Statement (.cSd rs1 rs2 uimm) :=
  length_of_half rfl (encCD_low _ _ _ _ _) rfl rfl
theorem Length.cNop (imm : BitVec 6) : Length.Statement (.cNop imm) :=
  length_of_half rfl (encCI_low _ _ _ _) rfl rfl
theorem Length.cAddi (rd : Reg) (imm : BitVec 6) : Length.Statement (.cAddi rd imm) :=
  length_of_half rfl (encCI_low _ _ _ _) rfl rfl
theorem Length.cJal (off : BitVec 11) : Length.Statement (.cJal off) :=
  length_of_half rfl (encCJ_low _ _ _) rfl rfl
theorem Length.cAddiw (rd : Reg) (imm : BitVec 6) : Length.Statement (.cAddiw rd imm) :=
  length_of_half rfl (encCI_low _ _ _ _) rfl rfl
theorem Length.cLi (rd : Reg) (imm : BitVec 6) : Length.Statement (.cLi rd imm) :=
  length_of_half rfl (encCI_low _ _ _ _) rfl rfl
theorem Length.cAddi16sp (imm : BitVec 6) : Length.Statement (.cAddi16sp imm) :=
  length_of_half rfl (encCAddi16sp_low _) rfl rfl
theorem Length.cLui (rd : Reg) (imm : BitVec 6) : Length.Statement (.cLui rd imm) :=
  length_of_half rfl (encCI_low _ _ _ _) rfl rfl
theorem Length.cSrli (rd : CReg) (shamt : BitVec 6) : Length.Statement (.cSrli rd shamt) :=
  length_of_half rfl (encCBAlu_low _ _ _ _ _) rfl rfl
theorem Length.cSrai (rd : CReg) (shamt : BitVec 6) : Length.Statement (.cSrai rd shamt) :=
  length_of_half rfl (encCBAlu_low _ _ _ _ _) rfl rfl
theorem Length.cAndi (rd : CReg) (imm : BitVec 6) : Length.Statement (.cAndi rd imm) :=
  length_of_half rfl (encCBAlu_low _ _ _ _ _) rfl rfl
theorem Length.cSub (rd rs2 : CReg) : Length.Statement (.cSub rd rs2) :=
  length_of_half rfl (encCA_low _ _ _ _ _) rfl rfl
theorem Length.cXor (rd rs2 : CReg) : Length.Statement (.cXor rd rs2) :=
  length_of_half rfl (encCA_low _ _ _ _ _) rfl rfl
theorem Length.cOr (rd rs2 : CReg) : Length.Statement (.cOr rd rs2) :=
  length_of_half rfl (encCA_low _ _ _ _ _) rfl rfl
theorem Length.cAnd (rd rs2 : CReg) : Length.Statement (.cAnd rd rs2) :=
  length_of_half rfl (encCA_low _ _ _ _ _) rfl rfl
theorem Length.cSubw (rd rs2 : CReg) : Length.Statement (.cSubw rd rs2) :=
  length_of_half rfl (encCA_low _ _ _ _ _) rfl rfl
theorem Length.cAddw (rd rs2 : CReg) : Length.Statement (.cAddw rd rs2) :=
  length_of_half rfl (encCA_low _ _ _ _ _) rfl rfl
theorem Length.cJ (off : BitVec 11) : Length.Statement (.cJ off) :=
  length_of_half rfl (encCJ_low _ _ _) rfl rfl
theorem Length.cBeqz (rs1 : CReg) (off : BitVec 8) : Length.Statement (.cBeqz rs1 off) :=
  length_of_half rfl (encCB_low _ _ _ _) rfl rfl
theorem Length.cBnez (rs1 : CReg) (off : BitVec 8) : Length.Statement (.cBnez rs1 off) :=
  length_of_half rfl (encCB_low _ _ _ _) rfl rfl
theorem Length.cSlli (rd : Reg) (shamt : BitVec 6) : Length.Statement (.cSlli rd shamt) :=
  length_of_half rfl (encCI_low _ _ _ _) rfl rfl
theorem Length.cFldsp (rd : Reg) (uimm : BitVec 6) : Length.Statement (.cFldsp rd uimm) :=
  length_of_half rfl (encCLdsp_low _ _ _ _) rfl rfl
theorem Length.cLwsp (rd : Reg) (uimm : BitVec 6) : Length.Statement (.cLwsp rd uimm) :=
  length_of_half rfl (encCLwsp_low _ _ _ _) rfl rfl
theorem Length.cFlwsp (rd : Reg) (uimm : BitVec 6) : Length.Statement (.cFlwsp rd uimm) :=
  length_of_half rfl (encCLwsp_low _ _ _ _) rfl rfl
theorem Length.cLdsp (rd : Reg) (uimm : BitVec 6) : Length.Statement (.cLdsp rd uimm) :=
  length_of_half rfl (encCLdsp_low _ _ _ _) rfl rfl
theorem Length.cJr (rs1 : Reg) : Length.Statement (.cJr rs1) :=
  length_of_half rfl (encCR_low _ _ _ _) rfl rfl
theorem Length.cMv (rd rs2 : Reg) : Length.Statement (.cMv rd rs2) :=
  length_of_half rfl (encCR_low _ _ _ _) rfl rfl
theorem Length.cEbreak : Length.Statement (.cEbreak) :=
  length_of_half rfl (encCR_low _ _ _ _) rfl rfl
theorem Length.cJalr (rs1 : Reg) : Length.Statement (.cJalr rs1) :=
  length_of_half rfl (encCR_low _ _ _ _) rfl rfl
theorem Length.cAdd (rd rs2 : Reg) : Length.Statement (.cAdd rd rs2) :=
  length_of_half rfl (encCR_low _ _ _ _) rfl rfl
theorem Length.cFsdsp (rs2 : Reg) (uimm : BitVec 6) : Length.Statement (.cFsdsp rs2 uimm) :=
  length_of_half rfl (encCSdsp_low _ _ _ _) rfl rfl
theorem Length.cSwsp (rs2 : Reg) (uimm : BitVec 6) : Length.Statement (.cSwsp rs2 uimm) :=
  length_of_half rfl (encCSwsp_low _ _ _ _) rfl rfl
theorem Length.cFswsp (rs2 : Reg) (uimm : BitVec 6) : Length.Statement (.cFswsp rs2 uimm) :=
  length_of_half rfl (encCSwsp_low _ _ _ _) rfl rfl
theorem Length.cSdsp (rs2 : Reg) (uimm : BitVec 6) : Length.Statement (.cSdsp rs2 uimm) :=
  length_of_half rfl (encCSdsp_low _ _ _ _) rfl rfl

end Sys2Proof.Laws
end

