-- ==== Sys2Proof/Laws/Step.lean ====
section
/-! SUPPORT. What a step can do, said once, and what a decoder can answer about a fetched word. -/

namespace Sys2Proof.Machine

/-- A step traps at fetch or decode, or has an effect of the instruction it decodes. -/
theorem step_cases (s t : State) (h : step s = .next t) :
    (∃ c tval, t = s.begin.raise c tval) ∨
    ∃ e i, s.begin.fetchEnc = .ok e ∧ s.begin.decodeEnc e = .ok i ∧ Effect i s.begin t := by
  unfold step at h
  simp only at h
  split at h
  · cases h; exact .inl ⟨_, _, rfl⟩
  · rename_i e he
    split at h
    · rename_i i hi; exact .inr ⟨e, i, he, hi, effect_of_exec _ _ _ h⟩
    · cases h; exact .inl ⟨_, _, rfl⟩

/-- An effect that starts with no recorded Trap call is a trap or leaves none recorded. -/
theorem Effect.trap_or_none (i : Instr) (s t : State) (h : Effect i s t) (hs : s.trapCall = none) :
    (∃ c tval, t = s.raise c tval) ∨ t.trapCall = none := by
  cases h
  case trap => exact .inl ⟨_, _, rfl⟩
  case store h => right; simp [State.memWrite_fields h, hs]
  case scWrites h => right; simp [State.memWrite_fields h, hs]
  case amo h => right; simp [State.memWrite_fields h, hs]
  all_goals right; simp [hs]

end Sys2Proof.Machine
end

