-- ==== Sys2Proof/Tests/Slice0.lean ====
section
/-! SUPPORT. Tests: ill-formed terms, a decoded word for each constructor, single steps from the vectors of
95_test_vectors.md, and for each statement with hypotheses a witness that meets them. -/

namespace Sys2Proof.Tests

open Sys2Proof.Machine Sys2Proof.Spec

/-! ## Well-formedness: each check refuses a term -/

theorem test_wf_refuses_cAddi4spn_zero : (Instr.cAddi4spn 3 0).wf = false := by decide
theorem test_wf_refuses_cAddi_x0 : (Instr.cAddi 0 5).wf = false := by decide
theorem test_wf_refuses_cAddiw_x0 : (Instr.cAddiw 0 5).wf = false := by decide
theorem test_wf_refuses_cAddi16sp_zero : (Instr.cAddi16sp 0).wf = false := by decide
theorem test_wf_refuses_cLui_x2 : (Instr.cLui 2 5).wf = false := by decide
theorem test_wf_refuses_cLui_zero : (Instr.cLui 3 0).wf = false := by decide
theorem test_wf_refuses_cLwsp_x0 : (Instr.cLwsp 0 5).wf = false := by decide
theorem test_wf_refuses_cLdsp_x0 : (Instr.cLdsp 0 5).wf = false := by decide
theorem test_wf_refuses_cJr_x0 : (Instr.cJr 0).wf = false := by decide
theorem test_wf_refuses_cJalr_x0 : (Instr.cJalr 0).wf = false := by decide
theorem test_wf_refuses_cMv_x0 : (Instr.cMv 5 0).wf = false := by decide
theorem test_wf_refuses_cAdd_x0 : (Instr.cAdd 5 0).wf = false := by decide

/-! ## Decoding: the word of each constructor, its bits written out field by field from the spec's encoding -/

/-- Every listed word, of the listed bits, decodes to the listed instruction. -/
def decodes (l : List (Nat × Nat × Instr)) : Bool := l.all fun r => decodeTableWord r.1 r.2.1 == some r.2.2

/-- The same with XLEN = 32, for the rows that exist there alone. -/
def decodesRv32 (l : List (Nat × Nat × Instr)) : Bool :=
  l.all fun r => match decode { Config.atReset with xlen := .rv32 } (.half (BitVec.ofNat 16 r.2.1)) with
    | .ok i => i == r.2.2
    | .error _ => false

theorem test_decode_base_integer_1 :
    decodes
    [(32, 0b10001101001101011010_10101_0110111, .lui 21 0x8d35a),
     (32, 0b10001101001101011010_10101_0010111, .auipc 21 0x8d35a),
     (32, 0b101001010011_01110_000_10101_0010011, .addi 21 14 0xa53),
     (32, 0b101001010011_01110_010_10101_0010011, .slti 21 14 0xa53),
     (32, 0b101001010011_01110_011_10101_0010011, .sltiu 21 14 0xa53),
     (32, 0b101001010011_01110_100_10101_0010011, .xori 21 14 0xa53),
     (32, 0b101001010011_01110_110_10101_0010011, .ori 21 14 0xa53),
     (32, 0b101001010011_01110_111_10101_0010011, .andi 21 14 0xa53),
     (32, 0b000000_101011_01110_001_10101_0010011, .slli 21 14 43),
     (32, 0b000000_101011_01110_101_10101_0010011, .srli 21 14 43),
     (32, 0b010000_101011_01110_101_10101_0010011, .srai 21 14 43),
     (32, 0b0000000_10011_01110_000_10101_0110011, .add 21 14 19)] = true := by decide

theorem test_decode_base_integer_2 :
    decodes
    [(32, 0b0100000_10011_01110_000_10101_0110011, .sub 21 14 19),
     (32, 0b0000000_10011_01110_001_10101_0110011, .sll 21 14 19),
     (32, 0b0000000_10011_01110_010_10101_0110011, .slt 21 14 19),
     (32, 0b0000000_10011_01110_011_10101_0110011, .sltu 21 14 19),
     (32, 0b0000000_10011_01110_100_10101_0110011, .xor 21 14 19),
     (32, 0b0000000_10011_01110_101_10101_0110011, .srl 21 14 19),
     (32, 0b0100000_10011_01110_101_10101_0110011, .sra 21 14 19),
     (32, 0b0000000_10011_01110_110_10101_0110011, .or 21 14 19),
     (32, 0b0000000_10011_01110_111_10101_0110011, .and 21 14 19),
     (32, 0b101001010011_01110_000_10101_0011011, .addiw 21 14 0xa53),
     (32, 0b000000_010101_01110_001_10101_0011011, .slliw 21 14 21),
     (32, 0b000000_010101_01110_101_10101_0011011, .srliw 21 14 21)] = true := by decide

theorem test_decode_base_integer_3 :
    decodes
    [(32, 0b010000_010101_01110_101_10101_0011011, .sraiw 21 14 21),
     (32, 0b0000000_10011_01110_000_10101_0111011, .addw 21 14 19),
     (32, 0b0100000_10011_01110_000_10101_0111011, .subw 21 14 19),
     (32, 0b0000000_10011_01110_001_10101_0111011, .sllw 21 14 19),
     (32, 0b0000000_10011_01110_101_10101_0111011, .srlw 21 14 19),
     (32, 0b0100000_10011_01110_101_10101_0111011, .sraw 21 14 19)] = true := by decide

theorem test_decode_control_transfer :
    decodes
    [(32, 0b1_1010110101_1_01011000_10101_1101111, .jal 21 0xac6b5),
     (32, 0b101001010011_01110_000_10101_1100111, .jalr 21 14 0xa53),
     (32, 0b1_110101_10011_01110_000_1001_0_1100011, .beq 14 19 0xb59),
     (32, 0b1_110101_10011_01110_001_1001_0_1100011, .bne 14 19 0xb59),
     (32, 0b1_110101_10011_01110_100_1001_0_1100011, .blt 14 19 0xb59),
     (32, 0b1_110101_10011_01110_101_1001_0_1100011, .bge 14 19 0xb59),
     (32, 0b1_110101_10011_01110_110_1001_0_1100011, .bltu 14 19 0xb59),
     (32, 0b1_110101_10011_01110_111_1001_0_1100011, .bgeu 14 19 0xb59)] = true := by decide

theorem test_decode_load_store :
    decodes
    [(32, 0b101001010011_01110_000_10101_0000011, .lb 21 14 0xa53),
     (32, 0b101001010011_01110_001_10101_0000011, .lh 21 14 0xa53),
     (32, 0b101001010011_01110_010_10101_0000011, .lw 21 14 0xa53),
     (32, 0b101001010011_01110_011_10101_0000011, .ld 21 14 0xa53),
     (32, 0b101001010011_01110_100_10101_0000011, .lbu 21 14 0xa53),
     (32, 0b101001010011_01110_101_10101_0000011, .lhu 21 14 0xa53),
     (32, 0b101001010011_01110_110_10101_0000011, .lwu 21 14 0xa53),
     (32, 0b1010010_10011_01110_000_10011_0100011, .sb 14 19 0xa53),
     (32, 0b1010010_10011_01110_001_10011_0100011, .sh 14 19 0xa53),
     (32, 0b1010010_10011_01110_010_10011_0100011, .sw 14 19 0xa53),
     (32, 0b1010010_10011_01110_011_10011_0100011, .sd 14 19 0xa53)] = true := by decide

theorem test_decode_system_1 :
    decodes
    [(32, 0b1010_0011_1100_01110_000_10101_0001111, .fence 10 3 12 14 21),
     (32, 0b101001010011_01110_001_10101_0001111, .fenceI 0xa53 14 21),
     (32, 0b000000000000_00000_000_00000_1110011, .ecall),
     (32, 0b000000000001_00000_000_00000_1110011, .ebreak),
     (32, 0b001101000101_01110_001_10101_1110011, .csrrw 21 0x345 14),
     (32, 0b001101000101_01110_010_10101_1110011, .csrrs 21 0x345 14),
     (32, 0b001101000101_01110_011_10101_1110011, .csrrc 21 0x345 14),
     (32, 0b001101000101_10110_101_10101_1110011, .csrrwi 21 0x345 22),
     (32, 0b001101000101_10110_110_10101_1110011, .csrrsi 21 0x345 22),
     (32, 0b001101000101_10110_111_10101_1110011, .csrrci 21 0x345 22),
     (32, 0b0001000_00010_00000_000_00000_1110011, .sret),
     (32, 0b0011000_00010_00000_000_00000_1110011, .mret)] = true := by decide

theorem test_decode_system_2 :
    decodes
    [(32, 0b0001000_00101_00000_000_00000_1110011, .wfi),
     (32, 0b0001001_10011_01110_000_00000_1110011, .sfenceVma 14 19)] = true := by decide

theorem test_decode_muldiv_1 :
    decodes
    [(32, 0b0000001_10011_01110_000_10101_0110011, .mul 21 14 19),
     (32, 0b0000001_10011_01110_001_10101_0110011, .mulh 21 14 19),
     (32, 0b0000001_10011_01110_010_10101_0110011, .mulhsu 21 14 19),
     (32, 0b0000001_10011_01110_011_10101_0110011, .mulhu 21 14 19),
     (32, 0b0000001_10011_01110_100_10101_0110011, .div 21 14 19),
     (32, 0b0000001_10011_01110_101_10101_0110011, .divu 21 14 19),
     (32, 0b0000001_10011_01110_110_10101_0110011, .rem 21 14 19),
     (32, 0b0000001_10011_01110_111_10101_0110011, .remu 21 14 19),
     (32, 0b0000001_10011_01110_000_10101_0111011, .mulw 21 14 19),
     (32, 0b0000001_10011_01110_100_10101_0111011, .divw 21 14 19),
     (32, 0b0000001_10011_01110_101_10101_0111011, .divuw 21 14 19),
     (32, 0b0000001_10011_01110_110_10101_0111011, .remw 21 14 19)] = true := by decide

theorem test_decode_muldiv_2 :
    decodes
    [(32, 0b0000001_10011_01110_111_10101_0111011, .remuw 21 14 19)] = true := by decide

theorem test_decode_atomic_1 :
    decodes
    [(32, 0b00010_1_0_00000_01110_010_10101_0101111, .lrW 21 14 true false),
     (32, 0b00011_1_0_10011_01110_010_10101_0101111, .scW 21 14 19 true false),
     (32, 0b00000_1_0_10011_01110_010_10101_0101111, .amoaddW 21 14 19 true false),
     (32, 0b00001_1_0_10011_01110_010_10101_0101111, .amoswapW 21 14 19 true false),
     (32, 0b00100_1_0_10011_01110_010_10101_0101111, .amoxorW 21 14 19 true false),
     (32, 0b01000_1_0_10011_01110_010_10101_0101111, .amoorW 21 14 19 true false),
     (32, 0b01100_1_0_10011_01110_010_10101_0101111, .amoandW 21 14 19 true false),
     (32, 0b10000_1_0_10011_01110_010_10101_0101111, .amominW 21 14 19 true false),
     (32, 0b10100_1_0_10011_01110_010_10101_0101111, .amomaxW 21 14 19 true false),
     (32, 0b11000_1_0_10011_01110_010_10101_0101111, .amominuW 21 14 19 true false),
     (32, 0b11100_1_0_10011_01110_010_10101_0101111, .amomaxuW 21 14 19 true false),
     (32, 0b00010_1_0_00000_01110_011_10101_0101111, .lrD 21 14 true false)] = true := by decide

theorem test_decode_atomic_2 :
    decodes
    [(32, 0b00011_1_0_10011_01110_011_10101_0101111, .scD 21 14 19 true false),
     (32, 0b00000_1_0_10011_01110_011_10101_0101111, .amoaddD 21 14 19 true false),
     (32, 0b00001_1_0_10011_01110_011_10101_0101111, .amoswapD 21 14 19 true false),
     (32, 0b00100_1_0_10011_01110_011_10101_0101111, .amoxorD 21 14 19 true false),
     (32, 0b01000_1_0_10011_01110_011_10101_0101111, .amoorD 21 14 19 true false),
     (32, 0b01100_1_0_10011_01110_011_10101_0101111, .amoandD 21 14 19 true false),
     (32, 0b10000_1_0_10011_01110_011_10101_0101111, .amominD 21 14 19 true false),
     (32, 0b10100_1_0_10011_01110_011_10101_0101111, .amomaxD 21 14 19 true false),
     (32, 0b11000_1_0_10011_01110_011_10101_0101111, .amominuD 21 14 19 true false),
     (32, 0b11100_1_0_10011_01110_011_10101_0101111, .amomaxuD 21 14 19 true false)] = true := by decide

theorem test_decode_fp_single_1 :
    decodes
    [(32, 0b101001010011_01110_010_10101_0000111, .flw 21 14 0xa53),
     (32, 0b1010010_10011_01110_010_10011_0100111, .fsw 14 19 0xa53),
     (32, 0b11001_00_10011_01110_011_10101_1000011, .fmaddS 21 14 19 25 3),
     (32, 0b11001_00_10011_01110_011_10101_1000111, .fmsubS 21 14 19 25 3),
     (32, 0b11001_00_10011_01110_011_10101_1001011, .fnmsubS 21 14 19 25 3),
     (32, 0b11001_00_10011_01110_011_10101_1001111, .fnmaddS 21 14 19 25 3),
     (32, 0b0000000_10011_01110_011_10101_1010011, .faddS 21 14 19 3),
     (32, 0b0000100_10011_01110_011_10101_1010011, .fsubS 21 14 19 3),
     (32, 0b0001000_10011_01110_011_10101_1010011, .fmulS 21 14 19 3),
     (32, 0b0001100_10011_01110_011_10101_1010011, .fdivS 21 14 19 3),
     (32, 0b0101100_00000_01110_011_10101_1010011, .fsqrtS 21 14 3),
     (32, 0b0010000_10011_01110_000_10101_1010011, .fsgnjS 21 14 19)] = true := by decide

theorem test_decode_fp_single_2 :
    decodes
    [(32, 0b0010000_10011_01110_001_10101_1010011, .fsgnjnS 21 14 19),
     (32, 0b0010000_10011_01110_010_10101_1010011, .fsgnjxS 21 14 19),
     (32, 0b0010100_10011_01110_000_10101_1010011, .fminS 21 14 19),
     (32, 0b0010100_10011_01110_001_10101_1010011, .fmaxS 21 14 19),
     (32, 0b1010000_10011_01110_010_10101_1010011, .feqS 21 14 19),
     (32, 0b1010000_10011_01110_001_10101_1010011, .fltS 21 14 19),
     (32, 0b1010000_10011_01110_000_10101_1010011, .fleS 21 14 19),
     (32, 0b1110000_00000_01110_001_10101_1010011, .fclassS 21 14),
     (32, 0b1100000_00000_01110_011_10101_1010011, .fcvtWS 21 14 3),
     (32, 0b1101000_00000_01110_011_10101_1010011, .fcvtSW 21 14 3),
     (32, 0b1100000_00001_01110_011_10101_1010011, .fcvtWuS 21 14 3),
     (32, 0b1101000_00001_01110_011_10101_1010011, .fcvtSWu 21 14 3)] = true := by decide

theorem test_decode_fp_single_3 :
    decodes
    [(32, 0b1100000_00010_01110_011_10101_1010011, .fcvtLS 21 14 3),
     (32, 0b1101000_00010_01110_011_10101_1010011, .fcvtSL 21 14 3),
     (32, 0b1100000_00011_01110_011_10101_1010011, .fcvtLuS 21 14 3),
     (32, 0b1101000_00011_01110_011_10101_1010011, .fcvtSLu 21 14 3),
     (32, 0b1110000_00000_01110_000_10101_1010011, .fmvXW 21 14),
     (32, 0b1111000_00000_01110_000_10101_1010011, .fmvWX 21 14)] = true := by decide

theorem test_decode_fp_double_1 :
    decodes
    [(32, 0b101001010011_01110_011_10101_0000111, .fld 21 14 0xa53),
     (32, 0b1010010_10011_01110_011_10011_0100111, .fsd 14 19 0xa53),
     (32, 0b11001_01_10011_01110_011_10101_1000011, .fmaddD 21 14 19 25 3),
     (32, 0b11001_01_10011_01110_011_10101_1000111, .fmsubD 21 14 19 25 3),
     (32, 0b11001_01_10011_01110_011_10101_1001011, .fnmsubD 21 14 19 25 3),
     (32, 0b11001_01_10011_01110_011_10101_1001111, .fnmaddD 21 14 19 25 3),
     (32, 0b0000001_10011_01110_011_10101_1010011, .faddD 21 14 19 3),
     (32, 0b0000101_10011_01110_011_10101_1010011, .fsubD 21 14 19 3),
     (32, 0b0001001_10011_01110_011_10101_1010011, .fmulD 21 14 19 3),
     (32, 0b0001101_10011_01110_011_10101_1010011, .fdivD 21 14 19 3),
     (32, 0b0101101_00000_01110_011_10101_1010011, .fsqrtD 21 14 3),
     (32, 0b0010001_10011_01110_000_10101_1010011, .fsgnjD 21 14 19)] = true := by decide

theorem test_decode_fp_double_2 :
    decodes
    [(32, 0b0010001_10011_01110_001_10101_1010011, .fsgnjnD 21 14 19),
     (32, 0b0010001_10011_01110_010_10101_1010011, .fsgnjxD 21 14 19),
     (32, 0b0010101_10011_01110_000_10101_1010011, .fminD 21 14 19),
     (32, 0b0010101_10011_01110_001_10101_1010011, .fmaxD 21 14 19),
     (32, 0b1010001_10011_01110_010_10101_1010011, .feqD 21 14 19),
     (32, 0b1010001_10011_01110_001_10101_1010011, .fltD 21 14 19),
     (32, 0b1010001_10011_01110_000_10101_1010011, .fleD 21 14 19),
     (32, 0b1110001_00000_01110_001_10101_1010011, .fclassD 21 14),
     (32, 0b1100001_00000_01110_011_10101_1010011, .fcvtWD 21 14 3),
     (32, 0b1101001_00000_01110_011_10101_1010011, .fcvtDW 21 14 3),
     (32, 0b1100001_00001_01110_011_10101_1010011, .fcvtWuD 21 14 3),
     (32, 0b1101001_00001_01110_011_10101_1010011, .fcvtDWu 21 14 3)] = true := by decide

theorem test_decode_fp_double_3 :
    decodes
    [(32, 0b1100001_00010_01110_011_10101_1010011, .fcvtLD 21 14 3),
     (32, 0b1101001_00010_01110_011_10101_1010011, .fcvtDL 21 14 3),
     (32, 0b1100001_00011_01110_011_10101_1010011, .fcvtLuD 21 14 3),
     (32, 0b1101001_00011_01110_011_10101_1010011, .fcvtDLu 21 14 3),
     (32, 0b0100000_00001_01110_011_10101_1010011, .fcvtSD 21 14 3),
     (32, 0b0100001_00000_01110_011_10101_1010011, .fcvtDS 21 14 3),
     (32, 0b1110001_00000_01110_000_10101_1010011, .fmvXD 21 14),
     (32, 0b1111001_00000_01110_000_10101_1010011, .fmvDX 21 14)] = true := by decide

theorem test_decode_compressed_1 :
    decodes
    [(16, 0b000_00101101_101_00, .cAddi4spn 5 0xb2),
     (16, 0b001_110_011_10_101_00, .cFld 5 3 22),
     (16, 0b010_011_011_01_101_00, .cLw 5 3 22),
     (16, 0b011_110_011_10_101_00, .cLd 5 3 22),
     (16, 0b101_110_011_10_110_00, .cFsd 3 6 22),
     (16, 0b110_011_011_01_110_00, .cSw 3 6 22),
     (16, 0b111_110_011_10_110_00, .cSd 3 6 22),
     (16, 0b000_1_00000_01101_01, .cNop 45),
     (16, 0b000_1_10101_01101_01, .cAddi 21 45),
     (16, 0b001_1_10101_01101_01, .cAddiw 21 45),
     (16, 0b010_1_10101_01101_01, .cLi 21 45),
     (16, 0b011_1_00010_11010_01, .cAddi16sp 45)] = true := by decide

theorem test_decode_compressed_2 :
    decodes
    [(16, 0b011_1_10101_01101_01, .cLui 21 45),
     (16, 0b100_100_101_01011_01, .cSrli 5 43),
     (16, 0b100_101_101_01011_01, .cSrai 5 43),
     (16, 0b100_110_101_01101_01, .cAndi 5 45),
     (16, 0b100011_101_00_110_01, .cSub 5 6),
     (16, 0b100011_101_01_110_01, .cXor 5 6),
     (16, 0b100011_101_10_110_01, .cOr 5 6),
     (16, 0b100011_101_11_110_01, .cAnd 5 6),
     (16, 0b100111_101_00_110_01, .cSubw 5 6),
     (16, 0b100111_101_01_110_01, .cAddw 5 6),
     (16, 0b101_10110100111_01, .cJ 0x5b3),
     (16, 0b110_101_011_00101_01, .cBeqz 3 0x96)] = true := by decide

theorem test_decode_compressed_3 :
    decodes
    [(16, 0b111_101_011_00101_01, .cBnez 3 0x96),
     (16, 0b000_1_10101_01011_10, .cSlli 21 43),
     (16, 0b001_1_10101_00101_10, .cFldsp 21 44),
     (16, 0b010_1_10101_10010_10, .cLwsp 21 44),
     (16, 0b011_1_10101_00101_10, .cLdsp 21 44),
     (16, 0b1000_01110_00000_10, .cJr 14),
     (16, 0b1000_10101_10011_10, .cMv 21 19),
     (16, 0b1001_00000_00000_10, .cEbreak),
     (16, 0b1001_01110_00000_10, .cJalr 14),
     (16, 0b1001_10101_10011_10, .cAdd 21 19),
     (16, 0b101_100101_10011_10, .cFsdsp 19 44),
     (16, 0b110_110010_10011_10, .cSwsp 19 44)] = true := by decide

theorem test_decode_compressed_4 :
    decodes
    [(16, 0b111_100101_10011_10, .cSdsp 19 44)] = true := by decide

theorem test_decode_rv32_only :
    decodesRv32
    [(16, 0b011_011_011_01_101_00, .cFlw 5 3 22),
     (16, 0b111_011_011_01_110_00, .cFsw 3 6 22),
     (16, 0b001_10110100111_01, .cJal 0x5b3),
     (16, 0b011_1_10101_10010_10, .cFlwsp 21 44),
     (16, 0b111_110010_10011_10, .cFswsp 19 44)] = true := by decide

/-! ## Single steps: vectors of 95_test_vectors.md -/

/-- Reset with FS Clean, the listed registers set, and bytes placed from 0x2000 on. -/
def ready (xs fs : List (Nat × Nat)) (bytes : List Nat) : State :=
  { State.reset with
    fs := .clean
    x := xs.foldl (fun v r => v.setIfInBounds r.1 (BitVec.ofNat 64 r.2)) State.reset.x
    f := fs.foldl (fun v r => v.setIfInBounds r.1 (BitVec.ofNat 64 r.2)) State.reset.f
    mem := storeBytes [] ((List.range bytes.length).map (0x2000 + ·)) (bytes.map (BitVec.ofNat 8)) }

/-- What an observation gives after one step on the word. -/
def ran {α : Type} (s : State) (nbits w : Nat) (obs : State → α) : Option α :=
  match step (s.withFetchWord nbits w) with
  | .next t => some (obs t)
  | .fault _ => none
  | .refused _ => none

/-- n bytes from an address on. -/
def bytesAt (t : State) (a n : Nat) : List Nat := (List.range n).map fun k => (t.mem.read (a + k)).toNat

/-- B2: add x1, x2, x3. -/
theorem test_add_wraps :
    ran (ready [(2, 0xffffffffffffffff), (3, 1)] [] []) 32 0x003100B3 (fun t => ((t.rdX 64 1).toNat, t.pc.toNat)) =
      some (0, 0x1004) := by decide

/-- B8: sltiu x1, x2, -1. -/
theorem test_sltiu_is_unsigned_on_the_extended_immediate :
    ran (ready [(2, 0xfffffffffffffffe)] [] []) 32 0xFFF13093 (fun t => ((t.rdX 64 1).toNat, t.pc.toNat)) =
      some (1, 0x1004) := by decide

/-- B17: sra x1, x2, x3 (shift 40). -/
theorem test_sra_by_40 :
    ran (ready [(2, 0x8000000000000000), (3, 0x28)] [] []) 32 0x403150B3 (fun t => ((t.rdX 64 1).toNat, t.pc.toNat)) =
      some (0xffffffffff800000, 0x1004) := by decide

/-- B23: srai x1, x2, 32. -/
theorem test_srai_by_32 :
    ran (ready [(2, 0x8000000000000000)] [] []) 32 0x42015093 (fun t => ((t.rdX 64 1).toNat, t.pc.toNat)) =
      some (0xffffffff80000000, 0x1004) := by decide

/-- B25: lui x1, 0x80000. -/
theorem test_lui_sign_extends :
    ran (ready [] [] []) 32 0x800000B7 (fun t => ((t.rdX 64 1).toNat, t.pc.toNat)) =
      some (0xffffffff80000000, 0x1004) := by decide

/-- B28: addiw x1, x2, 1. -/
theorem test_addiw_sign_extends :
    ran (ready [(2, 0x7fffffff)] [] []) 32 0x0011009B (fun t => ((t.rdX 64 1).toNat, t.pc.toNat)) =
      some (0xffffffff80000000, 0x1004) := by decide

/-- B31: subw x1, x2, x3. -/
theorem test_subw_ignores_the_upper_word :
    ran (ready [(2, 0), (3, 1)] [] []) 32 0x403100BB (fun t => ((t.rdX 64 1).toNat, t.pc.toNat)) =
      some (0xffffffffffffffff, 0x1004) := by decide

/-- B33: srliw x1, x2, 0. -/
theorem test_srliw_by_0_sign_extends :
    ran (ready [(2, 0xffffffff80000000)] [] []) 32 0x0001509B (fun t => ((t.rdX 64 1).toNat, t.pc.toNat)) =
      some (0xffffffff80000000, 0x1004) := by decide

/-- B38: addiw-slot word with funct3 = 010 (0x0000201B). -/
theorem test_reserved_funct3_is_illegal :
    ran (ready [] [] []) 32 0x0000201B (fun t => t.trapCall.map fun c => (c.cause.code, c.tval.toNat)) =
      some (some (2, 0x201b)) := by decide

/-- T2: jal x0, -4096. -/
theorem test_jal_x0_writes_nothing :
    ran (ready [] [] []) 32 0x800FF06F (fun t => ((t.rdX 64 0).toNat, t.pc.toNat)) =
      some (0, 0) := by decide

/-- T12: bge x1, x2, 4094. -/
theorem test_bge_equal_is_taken :
    ran (ready [(1, 0), (2, 0)] [] []) 32 0x7E20DFE3 (fun t => t.pc.toNat) =
      some 0x1ffe := by decide

/-- L6: lw x1, 4(x2). -/
theorem test_lw_sign_extends :
    ran (ready [(2, 0x2000)] [] [0x11, 0x22, 0x33, 0x44, 0x55, 0x66, 0x77, 0x88]) 32 0x00412083 (fun t => ((t.rdX 64 1).toNat, t.pc.toNat)) =
      some (0xffffffff88776655, 0x1004) := by decide

/-- L7: lwu x1, 4(x2). -/
theorem test_lwu_zero_extends :
    ran (ready [(2, 0x2000)] [] [0x11, 0x22, 0x33, 0x44, 0x55, 0x66, 0x77, 0x88]) 32 0x00416083 (fun t => ((t.rdX 64 1).toNat, t.pc.toNat)) =
      some (0x88776655, 0x1004) := by decide

/-- L13: sd x3, 8(x2). -/
theorem test_sd_is_little_endian :
    ran (ready [(2, 0x2000), (3, 0x123456789abcdef)] [] []) 32 0x00313423 (fun t => (bytesAt t 0x2008 8, t.pc.toNat)) =
      some ([0xEF, 0xCD, 0xAB, 0x89, 0x67, 0x45, 0x23, 0x01], 0x1004) := by decide

/-- K10: c.addiw with rd = 0 (0x2001). -/
theorem test_cAddiw_x0_is_illegal :
    ran (ready [] [] []) 16 0x2001 (fun t => t.trapCall.map fun c => (c.cause.code, c.tval.toNat)) =
      some (some (2, 0x2001)) := by decide

/-- K14: c.lui x10, 0xFFFE0 (0x7501). -/
theorem test_cLui_sign_extends :
    ran (ready [] [] []) 16 0x7501 (fun t => ((t.rdX 64 10).toNat, t.pc.toNat)) =
      some (0xfffffffffffe0000, 0x1002) := by decide

/-- K25: c.subw x8, x9 (0x9C05). -/
theorem test_cSubw_wraps :
    ran (ready [(8, 0), (9, 1)] [] []) 16 0x9C05 (fun t => ((t.rdX 64 8).toNat, t.pc.toNat)) =
      some (0xffffffffffffffff, 0x1002) := by decide

/-- K43: c.sdsp x10, 8(x2) (0xE42A). -/
theorem test_cSdsp_stores :
    ran (ready [(2, 0x2000), (10, 0x1122334455667788)] [] []) 16 0xE42A (fun t => (bytesAt t 0x2008 8, t.pc.toNat)) =
      some ([0x88, 0x77, 0x66, 0x55, 0x44, 0x33, 0x22, 0x11], 0x1002) := by decide

/-- M7: mulh x1, x2, x3. -/
theorem test_mulh_minimum :
    ran (ready [(2, 0x8000000000000000), (3, 0xffffffffffffffff)] [] []) 32 0x023110B3 (fun t => ((t.rdX 64 1).toNat, t.pc.toNat)) =
      some (0, 0x1004) := by decide

/-- M9: mulhsu x1, x2, x3. -/
theorem test_mulhsu_mixed_signs :
    ran (ready [(2, 0xffffffffffffffff), (3, 0xffffffffffffffff)] [] []) 32 0x023120B3 (fun t => ((t.rdX 64 1).toNat, t.pc.toNat)) =
      some (0xffffffffffffffff, 0x1004) := by decide

/-- M27: div x1, x2, x3 (MIN / -1). -/
theorem test_div_overflow :
    ran (ready [(2, 0x8000000000000000), (3, 0xffffffffffffffff)] [] []) 32 0x023140B3 (fun t => ((t.rdX 64 1).toNat, t.pc.toNat)) =
      some (0x8000000000000000, 0x1004) := by decide

/-- M28: rem x1, x2, x3 (MIN % -1). -/
theorem test_rem_overflow :
    ran (ready [(2, 0x8000000000000000), (3, 0xffffffffffffffff)] [] []) 32 0x023160B3 (fun t => ((t.rdX 64 1).toNat, t.pc.toNat)) =
      some (0, 0x1004) := by decide

/-- M30: divu x1, x2, x3 (5 / 0). -/
theorem test_divu_by_zero :
    ran (ready [(2, 5), (3, 0)] [] []) 32 0x023150B3 (fun t => ((t.rdX 64 1).toNat, t.pc.toNat)) =
      some (0xffffffffffffffff, 0x1004) := by decide

/-- M35: remuw x1, x2, x3 (x % 0). -/
theorem test_remuw_by_zero_sign_extends :
    ran (ready [(2, 0x80000005), (3, 0)] [] []) 32 0x023170BB (fun t => ((t.rdX 64 1).toNat, t.pc.toNat)) =
      some (0xffffffff80000005, 0x1004) := by decide

/-- A1: lr.w x1, (x10). -/
theorem test_lrW_reserves :
    ran (ready [(10, 0x2000)] [] [1, 0, 0, 0x80]) 32 0x100520AF (fun t => ((t.rdX 64 1).toNat, (t.resvValid, t.resvAddr.toNat), t.pc.toNat)) =
      some (0xffffffff80000001, (true, 0x2000), 0x1004) := by decide

/-- A2: sc.w x2, x3, (x10) (reservation held). -/
theorem test_scW_succeeds :
    ran ({ ready [(3, 0x55), (10, 0x2000)] [] [] with resvValid := true, resvAddr := 0x2000 }) 32 0x1835212F (fun t => ((t.rdX 64 2).toNat, bytesAt t 0x2000 4, t.resvValid, t.pc.toNat)) =
      some (0, [0x55, 0x00, 0x00, 0x00], false, 0x1004) := by decide

/-- A4: sc.w x2, x3, (x10) (reservation on another block). -/
theorem test_scW_other_block_fails :
    ran ({ ready [(3, 0x55), (10, 0x2000)] [] [7, 0, 0, 0] with resvValid := true, resvAddr := 0x2040 }) 32 0x1835212F (fun t => ((t.rdX 64 2).toNat, t.resvValid, t.pc.toNat)) =
      some (1, false, 0x1004) := by decide

/-- A17: amomin.w x1, x3, (x10) (upper bits of x3 ignored). -/
theorem test_amominW_ignores_the_upper_word :
    ran (ready [(3, 0xffffffff), (10, 0x2000)] [] [5, 0, 0, 0]) 32 0x803520AF (fun t => ((t.rdX 64 1).toNat, bytesAt t 0x2000 4, t.pc.toNat)) =
      some (5, [0xFF, 0xFF, 0xFF, 0xFF], 0x1004) := by decide

/-- A20: amomaxu.d x1, x3, (x10). -/
theorem test_amomaxuD_is_unsigned :
    ran (ready [(3, 1), (10, 0x2000)] [] [0, 0, 0, 0, 0, 0, 0, 0x80]) 32 0xE03530AF (fun t => ((t.rdX 64 1).toNat, bytesAt t 0x2000 8, t.pc.toNat)) =
      some (0x8000000000000000, [0x00, 0x00, 0x00, 0x00, 0x00, 0x00, 0x00, 0x80], 0x1004) := by decide

/-- A25: sc.w x2, x3, (x10) misaligned. -/
theorem test_scW_misaligned_is_a_store :
    ran ({ ready [(10, 0x2006)] [] [] with resvValid := true, resvAddr := 0x2000 }) 32 0x1835212F (fun t => t.trapCall.map fun c => (c.cause.code, c.tval.toNat)) =
      some (some (6, 0x2006)) := by decide

/-- F1: flw f1, 0(x2). -/
theorem test_flw_keeps_a_signaling_nan :
    ran (ready [(2, 0x2000)] [] [1, 0, 0x80, 0x7f]) 32 0x00012087 (fun t => ((t.rdF 1).toNat, t.fs, t.pc.toNat)) =
      some (0xffffffff7f800001, FS.dirty, 0x1004) := by decide

/-- F33: fsgnjn.s f3, f1, f1 (invalid box). -/
theorem test_fsgnjnS_unboxed_source :
    ran (ready [] [(1, 0x3f800000)] []) 32 0x201091D3 (fun t => ((t.rdF 3).toNat, t.fs, t.pc.toNat)) =
      some (0xffffffffffc00000, FS.dirty, 0x1004) := by decide

/-- F36: fmin.s f3, f1, f2 (sNaN, 1). -/
theorem test_fminS_signaling_nan :
    ran (ready [] [(1, 0xffffffff7f800001), (2, 0xffffffff3f800000)] []) 32 0x282081D3 (fun t => ((t.rdF 3).toNat, t.fflags.toNat, t.fs, t.pc.toNat)) =
      some (0xffffffff3f800000, 0x10, FS.dirty, 0x1004) := by decide

/-- F41: flt.s x5, f1, f2 (qNaN). -/
theorem test_fltS_quiet_nan_signals :
    ran (ready [] [(1, 0xffffffff7fc00000), (2, 0xffffffff3f800000)] []) 32 0xA02092D3 (fun t => ((t.rdX 64 5).toNat, t.fflags.toNat, t.fs, t.pc.toNat)) =
      some (0, 0x10, FS.dirty, 0x1004) := by decide

/-- F57: fcvt.w.s x5, f1, rdn (-2.5). -/
theorem test_fcvtWS_rounds_down :
    ran (ready [] [(1, 0xffffffffc0200000)] []) 32 0xC000A2D3 (fun t => ((t.rdX 64 5).toNat, t.fflags.toNat, t.fs, t.pc.toNat)) =
      some (0xfffffffffffffffd, 1, FS.dirty, 0x1004) := by decide

/-- F62: fcvt.wu.s x5, f1, rtz (NaN). -/
theorem test_fcvtWuS_nan :
    ran (ready [] [(1, 0xffffffff7fc00000)] []) 32 0xC01092D3 (fun t => ((t.rdX 64 5).toNat, t.fflags.toNat, t.fs, t.pc.toNat)) =
      some (0xffffffffffffffff, 0x10, FS.dirty, 0x1004) := by decide

/-- F69: fcvt.s.w f3, x5 (16777217, rne). -/
theorem test_fcvtSW_ties_to_even :
    ran (ready [(5, 0x1000001)] [] []) 32 0xD00281D3 (fun t => ((t.rdF 3).toNat, t.fflags.toNat, t.fs, t.pc.toNat)) =
      some (0xffffffff4b800000, 1, FS.dirty, 0x1004) := by decide

/-- F77: fadd.s f3, f1, f2, dyn with frm = 5. -/
theorem test_faddS_reserved_frm_is_illegal :
    ran ({ ready [] [(1, 0xffffffff3f800000), (2, 0xffffffff3f800000)] [] with frm := 5 }) 32 0x0020F1D3 (fun t => t.trapCall.map fun c => (c.cause.code, c.tval.toNat)) =
      some (some (2, 0x20f1d3)) := by decide

/-- F79: fdiv.s f3, f1, f2 (flags accumulate). -/
theorem test_fdivS_accrues_flags :
    ran ({ ready [] [(1, 0xffffffff3f800000), (2, 0xffffffff40400000)] [] with fflags := 16 }) 32 0x182081D3 (fun t => ((t.rdF 3).toNat, t.fflags.toNat, t.fs, t.pc.toNat)) =
      some (0xffffffff3eaaaaab, 0x11, FS.dirty, 0x1004) := by decide

/-- D4: fadd.d f3, f1, f2 (0.1 + 0.2). -/
theorem test_faddD_rounds :
    ran (ready [] [(1, 0x3fb999999999999a), (2, 0x3fc999999999999a)] []) 32 0x022081D3 (fun t => ((t.rdF 3).toNat, t.fflags.toNat, t.fs, t.pc.toNat)) =
      some (0x3fd3333333333334, 1, FS.dirty, 0x1004) := by decide

/-- D5: fadd.d f3, f1, f2 (boxed single input). -/
theorem test_faddD_boxed_single_is_a_nan :
    ran (ready [] [(1, 0xffffffff3f800000), (2, 0x3ff0000000000000)] []) 32 0x022081D3 (fun t => ((t.rdF 3).toNat, t.fs, t.pc.toNat)) =
      some (0x7ff8000000000000, FS.dirty, 0x1004) := by decide

/-- D9: fdiv.d f3, f1, f2 (1 by -0). -/
theorem test_fdivD_by_minus_zero :
    ran (ready [] [(1, 0x3ff0000000000000), (2, 0x8000000000000000)] []) 32 0x1A2081D3 (fun t => ((t.rdF 3).toNat, t.fflags.toNat, t.fs, t.pc.toNat)) =
      some (0xfff0000000000000, 8, FS.dirty, 0x1004) := by decide

/-- D10: fsqrt.d f3, f1 (2). -/
theorem test_fsqrtD_rounds :
    ran (ready [] [(1, 0x4000000000000000)] []) 32 0x5A0081D3 (fun t => ((t.rdF 3).toNat, t.fflags.toNat, t.fs, t.pc.toNat)) =
      some (0x3ff6a09e667f3bcd, 1, FS.dirty, 0x1004) := by decide

/-- D12: fnmadd.d f4, f1, f2, f3 (-(1*2)-3). -/
theorem test_fnmaddD_signs :
    ran (ready [] [(1, 0x3ff0000000000000), (2, 0x4000000000000000), (3, 0x4008000000000000)] []) 32 0x1A20824F (fun t => ((t.rdF 4).toNat, t.fs, t.pc.toNat)) =
      some (0xc014000000000000, FS.dirty, 0x1004) := by decide

/-- D16: fmax.d f3, f1, f2 (-0, +0). -/
theorem test_fmaxD_prefers_plus_zero :
    ran (ready [] [(1, 0x8000000000000000), (2, 0)] []) 32 0x2A2091D3 (fun t => ((t.rdF 3).toNat, t.fs, t.pc.toNat)) =
      some (0, FS.dirty, 0x1004) := by decide

/-- D23: fcvt.s.d f3, f1 (1e300, overflow). -/
theorem test_fcvtSD_overflows :
    ran (ready [] [(1, 0x7e37e43c8800759c)] []) 32 0x401081D3 (fun t => ((t.rdF 3).toNat, t.fflags.toNat, t.fs, t.pc.toNat)) =
      some (0xffffffff7f800000, 5, FS.dirty, 0x1004) := by decide

/-- D30: fcvt.lu.d x5, f1, rup (0.1). -/
theorem test_fcvtLuD_rounds_up :
    ran (ready [] [(1, 0x3fb999999999999a)] []) 32 0xC230B2D3 (fun t => ((t.rdX 64 5).toNat, t.fflags.toNat, t.fs, t.pc.toNat)) =
      some (1, 1, FS.dirty, 0x1004) := by decide

/-- D33: fcvt.d.l f3, x5 (2^53+1). -/
theorem test_fcvtDL_ties_to_even :
    ran (ready [(5, 0x20000000000001)] [] []) 32 0xD22281D3 (fun t => ((t.rdF 3).toNat, t.fflags.toNat, t.fs, t.pc.toNat)) =
      some (0x4340000000000000, 1, FS.dirty, 0x1004) := by decide

/-! ## Witnesses: for each statement with hypotheses, a state and operands that meet them -/

/-- A state with a configuration, its tables built. -/
def withCfg (f : Config → Config) : State := State.create (f Config.atReset)

/-- Reset with XLEN = 32, without C, or trapping misaligned accesses. -/
def rv32 : State := withCfg fun c => { c with xlen := .rv32 }
def noC : State := withCfg fun c => { c with cEn := false }
def trapping : State := withCfg fun c => { c with misaligned := .trap }

/-- Reset in a mode. -/
def inMode (p : Priv) : State := { State.reset with unit := { State.reset.unit with priv := p } }

/-- Reset with one region of the memory map. -/
def withRegion (base size : Nat) (fetch read write : Verdict) : State :=
  { State.reset with map := [⟨base, size, fetch, read, write⟩] }

/-- Reset with x1 set. -/
def withX1 (s : State) (v : Word) : State := { s with x := s.x.setIfInBounds 1 v }

/-- `addi x1, x0, 1` placed where reset fetches. -/
def oneAddi : State := State.reset.withFetchWord 32 0x00100093

theorem live_list {s : State} {l : List Instr} (h : (l.all fun i => i.wf && i.enabled s.cfg) = true) :
    ∀ i ∈ l, Live i s := fun i hi => by simpa [Live] using List.all_eq_true.mp h i hi

theorem fails_of {s : State} {k : Access} {a : Int} {n : Nat} {f : PortFault}
    (h : ∃ j < n, s.verdict k (byteAddr s a j) = .fail f)
    (hall : ∀ j < n, s.verdict k (byteAddr s a j) = .fail f ∨ s.verdict k (byteAddr s a j) = .ram) : FailsWith s k a n f :=
  ⟨h, fun j hj g hg => by
    rcases hall j hj with h' | h' <;> rw [h'] at hg
    · exact (Verdict.fail.inj hg).symm
    · exact nomatch hg⟩

theorem allowed_of {s : State} {k : Access} {a : Int} {n : Nat} (h : ∀ j < n, s.verdict k (byteAddr s a j) = .ram) :
    Allowed s k a n := fun j hj f => by rw [h j hj]; exact nofun

theorem fits {cfg : Config} {v : Word} (h : v.toNat < 2 ^ cfg.xlen.bits) : FitsXLen cfg v := h

theorem allowed_reset (k : Access) (a : Int) (n : Nat) : Allowed State.reset k a n :=
  fun _ _ f => by simp [State.verdict, State.reset, State.create]

theorem allowed_rv32 (k : Access) (a : Int) (n : Nat) : Allowed rv32 k a n :=
  fun _ _ f => by simp [State.verdict, rv32, withCfg, State.create]

theorem witness_DecodeOfEncode :
    (Instr.cLui 1 1).wf = true ∧ (Instr.cLui 1 1).enabled Config.atReset = true ∧
    (Instr.srai 31 31 63).wf = true ∧ (Instr.srai 31 31 63).enabled Config.atReset = true := by decide

theorem witness_EncodeOfDecode :
    (isFull 0x852E#16 = false ∧ decode Config.atReset (.half 0x852E#16) = .ok (.cMv 10 11)) ∧
    (isFull ((0x003100B3#32).extractLsb' 0 16) = true ∧ decode Config.atReset (.full 0x003100B3#32) = .ok (.add 1 2 3)) :=
  ⟨⟨rfl, rfl⟩, ⟨rfl, rfl⟩⟩

theorem witness_DecodeBytesTakesLength : (Instr.cJr 1).wf = true ∧ (Instr.cJr 1).enabled Config.atReset = true := by decide

theorem witness_InstallOrderIrrelevant :
    installsFull.reverse.Perm installsFull ∧ installsHalf.reverse.Perm installsHalf :=
  ⟨List.reverse_perm _, List.reverse_perm _⟩

theorem witness_StepRunsDecoded :
    oneAddi.TablesBuilt ∧ (oneAddi.pc.toNat : Int) % align oneAddi = 0 ∧
    decodeBytes oneAddi.cfg (fetchBytes oneAddi) = .ok (.addi 1 0 1, []) ∧
    Allowed oneAddi .fetch oneAddi.pc.toNat (encode (.addi 1 0 1)).len :=
  ⟨⟨rfl, rfl⟩, by decide, rfl, allowed_of (by decide)⟩

theorem witness_FetchTraps_misaligned : (({ State.reset with pc := 0x1001 } : State).pc.toNat : Int) %
    align { State.reset with pc := 0x1001 } ≠ 0 := by decide

theorem witness_FetchTraps_first :
    let s := withRegion 0x1001 1 (.fail .page) .ram .ram
    (s.pc.toNat : Int) % align s = 0 ∧ FailsWith s .fetch s.pc.toNat 2 .page :=
  ⟨by decide, fails_of ⟨1, by decide, by decide⟩ (by decide)⟩

theorem witness_FetchTraps_second :
    let s := { withRegion 0x1002 2 (.fail .access) .ram .ram with mem := [(0x1000, 0x13)] }
    Allowed s .fetch s.pc.toNat 2 ∧ (fetched s 0).toNat % 4 = 3 ∧ FailsWith s .fetch (s.pc.toNat + 2) 2 .access :=
  ⟨allowed_of (by decide), by decide, fails_of ⟨0, by decide, by decide⟩ (by decide)⟩

theorem reset_inv : Inv State.reset := ⟨⟨rfl, rfl⟩, rfl, rfl, ⟨by unfold FitsXLen; decide, fits (by decide), fits (by decide)⟩, rfl⟩

theorem witness_StepKeepsInvariant : Inv State.reset ∧ ∃ t, step State.reset = .next t := ⟨reset_inv, _, rfl⟩

theorem witness_StepKeepsPcAligned :
    State.reset.cfg.unitKind = .standard ∧ State.reset.PcAligned ∧ ∃ t, step State.reset = .next t := ⟨rfl, rfl, _, rfl⟩

theorem witness_CreationState :
    State.reset = State.create Config.atReset ∧ FitsXLen Config.atReset Config.atReset.resetPc ∧
    Config.atReset.resetPc.toNat % Config.atReset.instrAlign = 0 := ⟨rfl, fits (by decide), rfl⟩

theorem witness_SumResults : ∀ i ∈ [Instr.cAddi4spn 7 255, .cNop 0, .cAddi 31 32, .cLi 0 31, .cAddi16sp 32, .cLui 31 32,
    .cMv 31 31, .cAdd 1 2, .cSub 0 7], Live i State.reset := live_list rfl

theorem witness_ComparisonAndBitwiseResults : ∀ i ∈ [Instr.cAndi 0 32, .cXor 0 7, .cOr 7 0, .cAnd 7 7], Live i State.reset :=
  live_list rfl

theorem witness_ShiftResults : ∀ i ∈ [Instr.slli 1 2 63, .srli 1 2 32, .srai 1 2 63, .cSlli 31 63, .cSrli 7 63, .cSrai 7 63],
    Live i State.reset := live_list rfl

theorem witness_ShiftResults_rv32 : Live (.srai 1 2 31) rv32 := ⟨rfl, rfl⟩

theorem witness_WordFormResults : State.reset.cfg.xlen = .rv64 ∧ State.reset.cfg.cEn = true ∧ (31 : Reg) ≠ 0 := by decide

theorem witness_ProductResults_DivisionResults : State.reset.cfg.mEn = true ∧ State.reset.cfg.xlen = .rv64 := by decide

theorem witness_DivisionResults_corners :
    xs (withX1 State.reset (1#64 <<< 63)) 1 = -2 ^ 63 ∧ xs (withX1 State.reset (-1)) 1 = -1 ∧ xs State.reset 2 = 0 := by decide

theorem witness_JumpResults : ∀ j ∈ [(⟨.jal 1 0x7FFFF, 1, 0x100FFE, 4⟩ : Jump), ⟨.jalr 0 1 0, 0, 0, 4⟩, ⟨.cJ 1, 0, 0x1002, 2⟩,
    ⟨.cJr 1, 0, 0, 2⟩, ⟨.cJalr 1, 1, 0, 2⟩], IsJump State.reset j ∧ Live j.instr State.reset ∧ j.target % align State.reset = 0 := by
  intro j hj
  simp only [List.mem_cons, List.not_mem_nil, or_false] at hj
  rcases hj with rfl | rfl | rfl | rfl | rfl
  · exact ⟨.jal 1 _, ⟨rfl, rfl⟩, rfl⟩
  · exact ⟨.jalr 0 1 _, ⟨rfl, rfl⟩, rfl⟩
  · exact ⟨.cJ 1, ⟨rfl, rfl⟩, rfl⟩
  · exact ⟨.cJr 1, ⟨rfl, rfl⟩, rfl⟩
  · exact ⟨.cJalr 1, ⟨rfl, rfl⟩, rfl⟩

theorem witness_JumpResults_rv32 : IsJump rv32 ⟨.cJal 1, 1, 0x1002, 2⟩ ∧ Live (.cJal 1) rv32 ∧ (0x1002 : Int) % align rv32 = 0 :=
  ⟨.cJal 1, ⟨rfl, rfl⟩, rfl⟩

theorem witness_BranchResults_taken :
    IsBranch State.reset ⟨.beq 0 0 1, xu State.reset 0 = xu State.reset 0, 0x1002, 4⟩ ∧ Live (.beq 0 0 1) State.reset ∧
    xu State.reset 0 = xu State.reset 0 ∧ (0x1002 : Int) % align State.reset = 0 := ⟨.beq 0 0 1, ⟨rfl, rfl⟩, rfl, rfl⟩

theorem witness_BranchResults_not_taken :
    IsBranch State.reset ⟨.cBnez 0 1, xu State.reset (reg3 0) ≠ 0, 0x1002, 2⟩ ∧ Live (.cBnez 0 1) State.reset ∧
    ¬(xu State.reset (reg3 0) ≠ 0) := ⟨.cBnez 0 1, ⟨rfl, rfl⟩, by decide⟩

theorem witness_MisalignedTargetTraps_jump :
    IsJump noC ⟨.jal 1 1, 1, 0x1002, 4⟩ ∧ Live (.jal 1 1) noC ∧ (0x1002 : Int) % align noC ≠ 0 :=
  ⟨.jal 1 1, ⟨rfl, rfl⟩, by decide⟩

theorem witness_MisalignedTargetTraps_branch :
    IsBranch noC ⟨.bgeu 0 0 1, xu noC 0 ≥ xu noC 0, 0x1002, 4⟩ ∧ Live (.bgeu 0 0 1) noC ∧ xu noC 0 ≥ xu noC 0 ∧
    (0x1002 : Int) % align noC ≠ 0 := ⟨.bgeu 0 0 1, ⟨rfl, rfl⟩, by decide, by decide⟩

theorem witness_MisalignedTargetTraps_compressed :
    IsJump State.reset ⟨.cJ 1, 0, 0x1002, 2⟩ ∧ Live (.cJ 1) State.reset ∧ State.reset.pc.toNat % 2 = 0 :=
  ⟨.cJ 1, ⟨rfl, rfl⟩, rfl⟩

/-- The last address: the bytes of the access wrap. -/
theorem witness_LoadResults :
    (∃ a, IsLoad a 1 true ∧ a.instr = .ld 1 0 0xFFF ∧ a.addr State.reset = 2 ^ 64 - 1 ∧ Live a.instr State.reset ∧
      AlignedOrEmulated State.reset a ∧ Allowed State.reset .read (a.addr State.reset) a.n) ∧
    (∃ a, IsFpLoad a 1 ∧ Live a.instr State.reset ∧ AlignedOrEmulated State.reset a ∧
      Allowed State.reset .read (a.addr State.reset) a.n) :=
  ⟨⟨_, .ld 1 0 0xFFF, rfl, rfl, ⟨rfl, rfl⟩, .inr rfl, allowed_reset _ _ _⟩,
   ⟨_, .flw 1 0 0, ⟨rfl, rfl⟩, .inl rfl, allowed_reset _ _ _⟩⟩

theorem witness_LoadResults_rv32 : ∃ a, IsFpLoad a 0 ∧ Live a.instr rv32 ∧ AlignedOrEmulated rv32 a ∧
    Allowed rv32 .read (a.addr rv32) a.n := ⟨_, .cFlwsp 0 63, ⟨rfl, rfl⟩, .inl rfl, allowed_rv32 _ _ _⟩

theorem witness_StoreResults : ∃ a, State.reset.MemCanonical ∧ IsStore State.reset a (xu State.reset 31) ∧
    a.addr State.reset = 2 ^ 64 - 1 ∧ Live a.instr State.reset ∧ AlignedOrEmulated State.reset a ∧
    Allowed State.reset .write (a.addr State.reset) a.n :=
  ⟨_, rfl, .sd 0 31 0xFFF, rfl, ⟨rfl, rfl⟩, .inr rfl, allowed_reset _ _ _⟩

theorem witness_MemoryAccessTraps_misaligned :
    (∃ a, IsLoad a 1 false ∧ Live a.instr trapping ∧ ¬AlignedOrEmulated trapping a) ∧
    (∃ a v, IsStore trapping a v ∧ Live a.instr trapping ∧ ¬AlignedOrEmulated trapping a) :=
  ⟨⟨_, .lhu 1 0 1, ⟨rfl, rfl⟩, by unfold AlignedOrEmulated; decide⟩,
   ⟨_, _, .sd 0 2 4, ⟨rfl, rfl⟩, by unfold AlignedOrEmulated; decide⟩⟩

theorem witness_MemoryAccessTraps_failing :
    let s := withRegion 4 4 .ram (.fail .access) (.fail .page)
    (∃ a, IsLoad a 1 true ∧ Live a.instr s ∧ AlignedOrEmulated s a ∧ FailsWith s .read (a.addr s) a.n .access) ∧
    (∃ a v, IsStore s a v ∧ Live a.instr s ∧ AlignedOrEmulated s a ∧ FailsWith s .write (a.addr s) a.n .page) :=
  ⟨⟨_, .ld 1 0 0, ⟨rfl, rfl⟩, .inl rfl, fails_of ⟨4, by decide, by decide⟩ (by decide)⟩,
   ⟨_, _, .sw 0 2 4, ⟨rfl, rfl⟩, .inl rfl, fails_of ⟨0, by decide, by decide⟩ (by decide)⟩⟩

theorem witness_LoadReservedResults : IsLr (.lrD 1 0 true true) 1 0 8 ∧ Live (.lrD 1 0 true true) State.reset ∧
    xu State.reset 0 % (8 : Nat) = 0 ∧ Allowed State.reset .read (xu State.reset 0) 8 :=
  ⟨.d 1 0 true true, ⟨rfl, rfl⟩, rfl, allowed_reset _ _ _⟩

/-- Reset with the block at 0 reserved. -/
def reserved : State := { State.reset with resvValid := true }

theorem witness_StoreConditionalResults_succeeds :
    IsSc (.scW 1 0 2 false false) 1 0 2 4 ∧ Live (.scW 1 0 2 false false) reserved ∧ xu reserved 0 % (4 : Nat) = 0 ∧
    reserved.MemCanonical ∧ Matches reserved (xu reserved 0) ∧ (reserved.cfg.scMayFail = true → Config.scFails reserved.draws = false) ∧
    Allowed reserved .write (xu reserved 0) 4 :=
  ⟨.w 1 0 2 _ _, ⟨rfl, rfl⟩, rfl, rfl, ⟨rfl, rfl⟩, nofun, fun _ _ f => by simp [State.verdict, reserved, State.reset, State.create]⟩

theorem witness_StoreConditionalResults_fails : IsSc (.scD 1 0 2 true true) 1 0 2 8 ∧ Live (.scD 1 0 2 true true) State.reset ∧
    ¬Matches State.reset (xu State.reset 0) := ⟨.d 1 0 2 _ _, ⟨rfl, rfl⟩, fun h => nomatch h.1⟩

theorem witness_AmoResults : ∃ op, State.reset.MemCanonical ∧ IsAmo (.amomaxuD 1 0 2 true false) 1 0 2 8 op ∧
    Live (.amomaxuD 1 0 2 true false) State.reset ∧ xu State.reset 0 % (8 : Nat) = 0 ∧
    Allowed State.reset .read (xu State.reset 0) 8 ∧ Allowed State.reset .write (xu State.reset 0) 8 :=
  ⟨_, rfl, .maxuD 1 0 2 true false, ⟨rfl, rfl⟩, rfl, allowed_reset _ _ _, allowed_reset _ _ _⟩

theorem witness_AtomicTraps_misaligned :
    let s := withX1 State.reset 4
    (∀ i ∈ [Instr.lrD 2 1 false false, .scD 2 1 3 false false, .amoaddD 2 1 3 false false], Live i s) ∧ xu s 1 % (8 : Nat) ≠ 0 :=
  ⟨live_list rfl, by decide⟩

theorem witness_AtomicTraps_failing :
    let s := { withRegion 0 8 .ram (.fail .page) (.fail .access) with resvValid := true }
    let u := withRegion 0 8 .ram .ram (.fail .access)
    (∀ i ∈ [Instr.lrW 2 0 false false, .scW 2 0 3 false false, .amoaddW 2 0 3 false false], Live i s) ∧ xu s 0 % (4 : Nat) = 0 ∧
    Matches s (xu s 0) ∧ FailsWith s .read (xu s 0) 4 .page ∧ FailsWith s .write (xu s 0) 4 .access ∧
    Allowed u .read (xu u 0) 4 ∧ FailsWith u .write (xu u 0) 4 .access :=
  ⟨live_list rfl, rfl, ⟨rfl, rfl⟩, fails_of ⟨0, by decide, by decide⟩ (by decide),
   fails_of ⟨0, by decide, by decide⟩ (by decide), allowed_of (by decide), fails_of ⟨0, by decide, by decide⟩ (by decide)⟩

/-- Reset in S-mode with TVM, TW and TSR set. -/
def restricted : State := { inMode .supervisor with unit := { State.reset.unit with priv := .supervisor, tvm := true, tw := true, tsr := true } }

/-- Reset with a unit of which nothing is known. -/
def openUnit : State := withCfg fun c => { c with unitKind := .unspecified }

theorem witness_unspecified_unit :
    openUnit.cfg.unitKind = .unspecified ∧ (Instr.wfi = .wfi ∨ ∃ rs1 rs2, Instr.wfi = .sfenceVma rs1 rs2) ∧
    (Instr.sret = .mret ∨ Instr.sret = .sret) ∧ openUnit.budget = none := ⟨rfl, .inl rfl, .inr rfl, rfl⟩

theorem witness_OrderingInstructionsOnlyAdvance :
    State.reset.cfg.unitKind = .standard ∧ (State.reset.unit.tw = true → State.reset.unit.priv = .machine) ∧
    State.reset.unit.priv ≠ .user ∧ (State.reset.unit.priv = .supervisor → State.reset.unit.tvm = false) ∧
    restricted.unit.tw = true ∧ restricted.unit.priv ≠ .machine ∧ restricted.unit.priv = .supervisor ∧ restricted.unit.tvm = true := by
  decide

theorem witness_CallsAndBreakpointsTrap : State.reset.cfg.cEn = true := rfl

theorem witness_TrapReturns :
    State.reset.cfg.unitKind = .standard ∧ State.reset.unit.priv = .machine ∧
    ((inMode .supervisor).unit.priv = .supervisor ∧ (inMode .supervisor).unit.tsr = false) ∧ (inMode .user).unit.priv = .user ∧
    (restricted.unit.priv = .supervisor ∧ restricted.unit.tsr = true) := by decide

theorem witness_FpCsrResults :
    IsCsr State.reset ⟨.csrrwi 1 3 31, 3, 1, fun _ => 31, (1 : Reg) ≠ 0, True⟩ ∧ State.reset.cfg.fOn = true :=
  ⟨.rwi 1 3 31, rfl⟩

theorem witness_ExternalCsrResults_read :
    IsCsr State.reset ⟨.csrrsi 1 0x304 0, 0x304, 1, fun v => v ||| 0, True, (0 : BitVec 5) ≠ 0⟩ ∧
    State.reset.cfg.unitKind = .standard ∧
    CsrPermitted State.reset ⟨.csrrsi 1 0x304 0, 0x304, 1, fun v => v ||| 0, True, (0 : BitVec 5) ≠ 0⟩ ∧
    ((0x304 : BitVec 12), 0) ∈ heldCsrs State.reset ∧ ¬((0 : BitVec 5) ≠ 0) :=
  ⟨.rsi 1 0x304 0, rfl, ⟨by decide, fun h => absurd rfl h⟩, by decide, by decide⟩

theorem witness_ExternalCsrResults_write :
    IsCsr (inMode .supervisor) ⟨.csrrwi 1 0x142 9, 0x142, 1, fun _ => 9, (1 : Reg) ≠ 0, True⟩ ∧
    CsrPermitted (inMode .supervisor) ⟨.csrrwi 1 0x142 9, 0x142, 1, fun _ => 9, (1 : Reg) ≠ 0, True⟩ ∧
    ((0x142 : BitVec 12), 0) ∈ heldCsrs (inMode .supervisor) :=
  ⟨.rwi 1 0x142 9, ⟨by decide, fun _ => by decide⟩, by decide⟩

/-- mstatus with XLEN = 32 and FS Dirty reads SD at bit 31 and FS at 14:13; mepc with IALIGN = 32 reads with two bits clear. -/
theorem witness_ExternalCsrResults_status :
    IsCsr { rv32 with fs := .dirty } ⟨.csrrw 1 0x300 2, 0x300, 1, fun _ => (xu { rv32 with fs := .dirty } 2).toNat, (1 : Reg) ≠ 0, True⟩ ∧
    CsrPermitted { rv32 with fs := .dirty } ⟨.csrrw 1 0x300 2, 0x300, 1, fun _ => (xu { rv32 with fs := .dirty } 2).toNat, (1 : Reg) ≠ 0, True⟩ ∧
    ((0x300 : BitVec 12), 0x80006000) ∈ heldCsrs { rv32 with fs := .dirty } ∧
    ((0x341 : BitVec 12), 0x1000) ∈ heldCsrs { noC with unit := { noC.unit with mepc := 0x1003 } } :=
  ⟨.rw 1 0x300 2, ⟨by decide, fun _ => by decide⟩, by decide, by decide⟩

/-- A read of the cycle counter, in M-mode and with a unit of which nothing is known. -/
theorem witness_ExternalCsrResults_port :
    IsCsr State.reset ⟨.csrrs 1 0xC00 0, 0xC00, 1, fun v => v ||| 0, True, (0 : Reg) ≠ 0⟩ ∧
    CsrPermitted State.reset ⟨.csrrs 1 0xC00 0, 0xC00, 1, fun v => v ||| 0, True, (0 : Reg) ≠ 0⟩ ∧
    ¬OfBlock ⟨.csrrs 1 0xC00 0, 0xC00, 1, fun v => v ||| 0, True, (0 : Reg) ≠ 0⟩ ∧
    (∀ v, ((0xC00 : BitVec 12), v) ∉ heldCsrs State.reset) ∧
    IsCsr openUnit ⟨.csrrs 1 0xC00 0, 0xC00, 1, fun v => v ||| 0, True, (0 : Reg) ≠ 0⟩ ∧ openUnit.cfg.unitKind = .unspecified :=
  ⟨.rs 1 0xC00 0, ⟨by decide, fun h => absurd rfl h⟩, by unfold OfBlock; decide, fun v => by simp [heldCsrs], .rs 1 0xC00 0, rfl⟩

theorem witness_ForbiddenCsrTraps :
    (withCfg fun c => { c with fEn := false }).cfg.fOn = false ∧
    IsCsr (inMode .user) ⟨.csrrwi 1 0x142 9, 0x142, 1, fun _ => 9, (1 : Reg) ≠ 0, True⟩ ∧
    ¬CsrPermitted (inMode .user) ⟨.csrrwi 1 0x142 9, 0x142, 1, fun _ => 9, (1 : Reg) ≠ 0, True⟩ ∧
    IsCsr State.reset ⟨.csrrwi 1 0xC00 9, 0xC00, 1, fun _ => 9, (1 : Reg) ≠ 0, True⟩ ∧
    ¬CsrPermitted State.reset ⟨.csrrwi 1 0xC00 9, 0xC00, 1, fun _ => 9, (1 : Reg) ≠ 0, True⟩ :=
  ⟨rfl, .rwi 1 0x142 9, fun h => absurd h.1 (by decide), .rwi 1 0xC00 9, fun h => h.2 trivial rfl⟩

theorem witness_FpArithmeticCompletes : ∃ r, IsArith State.reset (.fmaddD 1 2 3 4 7) binary64 1 7 r ∧
    Live (.fmaddD 1 2 3 4 7) State.reset ∧ mode State.reset 7 = some .rne := ⟨_, .fmaddD 1 2 3 4 7, ⟨rfl, rfl⟩, rfl⟩

theorem witness_ToIntegerResults : IsToInt (.fcvtLuD 1 2 4) binary64 1 2 4 0 (2 ^ 64 - 1) ∧ Live (.fcvtLuD 1 2 4) State.reset ∧
    mode State.reset 4 = some .rmm := ⟨.luD 1 2 4, ⟨rfl, rfl⟩, rfl⟩

theorem witness_FpMoveResults : ∃ r, IsFpMove State.reset (.fmvDX 1 0) binary64 1 r ∧ Live (.fmvDX 1 0) State.reset :=
  ⟨_, .mvDX 1 0, rfl, rfl⟩

theorem witness_FpToIntegerRegisterResults : IsFormat binary32 ∧ ∀ i ∈ [Instr.feqS 1 2 3, .fltD 1 2 3, .fleS 1 2 3, .fclassD 1 2,
    .fmvXW 1 2, .fmvXD 1 2], Live i State.reset := ⟨.inl rfl, live_list rfl⟩

theorem witness_BoxRoundTrip : (0xFFFFFFFEFFFFFFFF : Word).toNat / 2 ^ 32 ≠ 0xFFFFFFFF := by decide

/-- Half of the smallest subnormal single. -/
theorem witness_RoundingIsCorrect : IsFormat binary32 ∧ (binary32.roundPack .rne true 1 (-150)).flags &&& 4 = 0 := ⟨.inl rfl, by decide⟩

/-- The largest finite single, negative, at its place; half of the least subnormal, a tie whose last place is that of the
subnormals and whose place without a bound lies below it. -/
theorem witness_TiesOverflowAndUnderflow :
    IsFormat binary32 ∧ 0xFFFFFF ≠ 0 ∧
    IsPlace binary32 (ratOf (.fin true 0xFFFFFF 104)) 104 ∧ IsLastPlace binary32 (ratOf (.fin true 0xFFFFFF 104)) 104 ∧
    RoundsTo .rtz (ratOf (.fin true 0xFFFFFF 104) / (2 : Rat) ^ (104 : Int)) (-0xFFFFFF) ∧
    IsPlace binary32 (ratOf (.fin false 1 (-150))) (-173) ∧ IsLastPlace binary32 (ratOf (.fin false 1 (-150))) (-149) ∧
    RoundsTo .rne (ratOf (.fin false 1 (-150)) / (2 : Rat) ^ (-149 : Int)) 0 ∧
    RoundsTo .rmm (ratOf (.fin false 1 (-150)) / (2 : Rat) ^ (-149 : Int)) 1 := by
  refine ⟨.inl rfl, by decide, ?_, ?_, ?_, ?_, ?_, ?_, ?_⟩ <;> simp only [IsPlace, IsLastPlace, RoundsTo] <;> decide +kernel

theorem witness_ExactThenRounded :
    binary32.decode 0x3F800000 = .fin false 0x800000 (-23) ∧ binary32.decode 0xC0400000 = .fin true 0xC00000 (-22) ∧
    binary32.decode 0x80000000 = .fin true 0 (-149) := by decide

/-- Their quotient does not overflow; that of the largest single by the least one does. -/
theorem witness_QuotientIsCorrect :
    IsFormat binary32 ∧ binary32.decode 0x3F800000 = .fin false 0x800000 (-23) ∧ binary32.decode 0xC0400000 = .fin true 0xC00000 (-22) ∧
    0xC00000 ≠ 0 ∧ 0x800000 ≠ 0 ∧ (binary32.div .rne 0x3F800000 0xC0400000).flags &&& 4 = 0 ∧
    (binary32.div .rne 0x7F7FFFFF 1).flags &&& 4 ≠ 0 ∧ binary32.decode 0x80000000 = .fin true 0 (-149) :=
  ⟨.inl rfl, by decide, by decide, by decide, by decide, by decide, by decide, by decide⟩

theorem witness_SquareRootIsCorrect : IsFormat binary64 ∧ binary64.decode 1 = .fin false 1 (-1074) ∧ 1 ≠ 0 :=
  ⟨.inr rfl, by decide, by decide⟩

theorem witness_SpecialValueResults :
    IsFormat binary32 ∧ binary32.isNaN 0x7F800001 = true ∧ binary32.isNaN 0xFFFFFFFF = true ∧ 1 < binary32.infBits ∧ 1 ≠ 0 ∧
    0x7F7FFFFF < binary32.infBits := ⟨.inl rfl, by decide, by decide, by decide, by decide, by decide⟩

theorem witness_ConversionsToFloat :
    0xFFFFFFFF < 2 ^ 32 ∧ 0x7FEFFFFFFFFFFFFF < 2 ^ 64 ∧ IsFormat binary32 ∧ (-2 ^ 31 : Int) ≤ -2 ^ 31 ∧ (2 ^ 32 - 1 : Int) < 2 ^ 32 :=
  ⟨by decide, by decide, .inl rfl, by decide, by decide⟩

theorem witness_ComparisonAndClassFollowValues : IsFormat binary64 ∧ 0xFFF0000000000000 < 2 ^ binary64.width := ⟨.inr rfl, by decide⟩

theorem witness_MinMaxFollowsValues :
    IsFormat binary32 ∧ binary32.isNaN 0x7FC00000 = true ∧ binary32.isNaN 0x3F800000 = false ∧ binary32.isNaN 0xFF800000 = false ∧
    Below (binary32.decode 0xFF800000) (binary32.decode 0x3F800000) := by
  refine ⟨.inl rfl, by decide, by decide, by decide, ?_⟩
  rw [show binary32.decode 0xFF800000 = .inf true by decide, show binary32.decode 0x3F800000 = .fin false 0x800000 (-23) by decide]
  rfl

/-- No instruction has the opcode 127. -/
theorem opcode_ne_127 (i : Instr) (h : encode i = .full 0xFFFFFFFF) : False := by
  have h7 := congrArg (fun e => e.bits.extractLsb' 0 7) h
  have low : ∀ {m : Nat} (a : BitVec m) (b : BitVec 7), (a ++ b).extractLsb' 0 7 = b := fun a b => by
    ext k hk; simp only [BitVec.getElem_extractLsb', BitVec.getLsbD_append]; rw [if_pos (by omega), Nat.zero_add, ← BitVec.getLsbD_eq_getElem]
  cases i <;> first
    | exact Enc.noConfusion h
    | exact absurd ((low _ _).symm.trans h7) (by decide)

theorem witness_IllegalInstructionTraps_word :
    let s := State.reset.withFetchWord 32 0xFFFFFFFF
    s.TablesBuilt ∧ (stepStart s).fetchEnc = .ok (.full 0xFFFFFFFF) ∧
    ∀ i, i.wf = true → i.enabled s.cfg = true → encode i ≠ .full 0xFFFFFFFF :=
  ⟨⟨rfl, rfl⟩, rfl, fun i _ _ h => opcode_ne_127 i h⟩

theorem witness_IllegalInstructionTraps :
    ¬Live (.cLui 2 1) State.reset ∧ ¬Live (.ld 1 2 0) rv32 ∧
    (∃ r, IsArith State.reset (.faddS 1 2 3 5) binary32 1 5 r) ∧ mode State.reset 5 = none ∧
    IsToInt (.fcvtWS 1 2 6) binary32 1 2 6 (-2 ^ 31) (2 ^ 31 - 1) ∧ mode State.reset 6 = none :=
  ⟨fun h => absurd h.1 (by decide), fun h => absurd h.2 (by decide), ⟨_, .faddS 1 2 3 5⟩, rfl, .wS 1 2 6, rfl⟩

theorem witness_ZeroRegisterNeverChanges : ∃ t, step oneAddi = .next t := ⟨_, rfl⟩

theorem witness_TrapsArePrecise : ∃ t c, step State.reset = .next t ∧ t.trapCall = some c := ⟨_, _, rfl, rfl⟩

theorem witness_FpStatusRules : ∃ t, exec (.csrrwi 0 1 31) State.reset = .next t ∧ t.fflags ≠ State.reset.fflags ∧
    t.fs ≠ State.reset.fs := ⟨_, rfl, by decide, by decide⟩

theorem witness_MemoryAndReservationChanges :
    (∃ t, exec (.add 1 2 3) reserved = .next t) ∧ (∀ a v, IsStore reserved a v → a.instr ≠ .add 1 2 3) ∧
    (∀ rd rs1 rs2 n, ¬IsSc (.add 1 2 3) rd rs1 rs2 n) ∧ (∀ rd rs1 rs2 n op, ¬IsAmo (.add 1 2 3) rd rs1 rs2 n op) ∧
    (∀ rd rs1 n, ¬IsLr (.add 1 2 3) rd rs1 n) :=
  ⟨⟨_, rfl⟩, fun _ _ h => by cases h <;> simp, nofun, nofun, nofun⟩

theorem witness_MemoryAndReservationChanges_cleared : ∃ t, exec (.sb 0 1 0) reserved = .next t ∧ reserved.resvValid = true ∧
    t.resvValid = false ∧ (∀ rd rs1 n, ¬IsLr (.sb 0 1 0) rd rs1 n) ∧ ∀ rd rs1 rs2 n, ¬IsSc (.sb 0 1 0) rd rs1 rs2 n :=
  ⟨_, rfl, rfl, by decide, nofun, nofun⟩

theorem witness_PrivilegeIsolation :
    State.reset.cfg.unitKind = .standard ∧ State.reset.trapCall = none ∧
    (∃ t, exec .mret State.reset = .next t ∧ t.unit.priv ≠ State.reset.unit.priv) ∧
    (∃ t, exec (.add 1 2 3) (inMode .user) = .next t ∧ (inMode .user).unit.priv = .user ∧ t.trapCall = none) ∧
    (∃ t, exec (.csrrwi 0 1 31) (inMode .user) = .next t ∧ t.trapCall = none ∧ t.fs ≠ (inMode .user).fs ∧ t.fs = .dirty) :=
  ⟨rfl, rfl, ⟨_, rfl, by decide⟩, ⟨_, rfl, rfl, rfl⟩, _, rfl, rfl, by decide, rfl⟩

theorem witness_CompressedExecutesItsExpansion :
    (∃ j, Expands (.cFsd 0 7 31) j) ∧ Live (.cFsd 0 7 31) State.reset ∧ State.reset.trapCall = none :=
  ⟨⟨_, .fsd 0 7 31⟩, ⟨rfl, rfl⟩, rfl⟩

theorem witness_BatchEnds :
    ({ State.reset with eventFlag := true } : State).eventFlag = true ∧ State.reset.eventFlag = false ∧
    (∃ t, step (State.reset.startBatch 1) = .next t ∧ t.trapCall ≠ none) ∧
    oneAddi.eventFlag = false ∧ ∃ t, step (oneAddi.startBatch 1) = .next t ∧ t.trapCall = none :=
  ⟨rfl, rfl, ⟨_, rfl, nofun⟩, rfl, _, rfl, rfl⟩

theorem witness_BatchBoundaryInvisible : ∃ u, runBatch 1 oneAddi = .next u ∧ u.trapCall = none := ⟨_, rfl, rfl⟩

theorem witness_ConfigurationChangesOnlyBetweenBatches :
    (∃ t, step State.reset = .next t) ∧ (State.reset.startBatch 3).budget = some 3 ∧ State.reset.budget = none ∧
    Config.atReset.fpPresent = true := ⟨⟨_, rfl⟩, rfl, rfl, rfl⟩

theorem witness_ExternalWriteBreaksReservation :
    Touches reserved ((63 : BitVec reserved.w).toNat) [(0 : Byte)].length ∧
    ¬Touches reserved ((64 : BitVec reserved.w).toNat) [(0 : Byte)].length ∧ reserved.MemCanonical :=
  ⟨⟨0, by decide, by decide, by decide⟩, fun ⟨j, hj, _, h⟩ => by
    obtain rfl : j = 0 := by simpa using hj
    exact absurd h (by decide), rfl⟩

/-- Reset with a machine timer interrupt pending and enabled. -/
def timerPending : State := { State.reset with unit := { State.reset.unit with mie := true, ie := 0x80, ip := 0x80 } }

/-- R812 and R816 by hand: code 7 with the interrupt bit, MIE saved and cleared, entry at BASE (4 * 7 above it in vectored mode). -/
theorem test_interrupt_entry :
    let t := takeInterrupt { timerPending with unit := { timerPending.unit with mtvec := 0x101 } }
    t.pc = 0x11C ∧ t.unit.mcause = 0x8000000000000007 ∧ t.unit.mepc = 0x1000 ∧ t.unit.mie = false ∧ t.unit.mpie = true := by decide

theorem witness_InterruptEntry :
    timerPending.cfg.unitKind = .standard ∧ timerPending.budget = none ∧ Takeable timerPending.unit 7 ∧
    ¬InterruptToS timerPending.unit 7 ∧ (State.reset.startBatch 1).budget ≠ none ∧ ∀ c, ¬Takeable State.reset.unit c :=
  ⟨rfl, rfl, ⟨by decide, rfl, rfl, fun h => absurd h (by unfold InterruptToS; decide), fun _ => .inr rfl⟩,
   by unfold InterruptToS; decide, nofun,
   fun c h => by have := h.2.1; simp [State.reset, State.create, TrapUnit.atReset] at this⟩

/-- A supervisor timer interrupt, delegated, in U-mode. -/
theorem witness_InterruptEntry_delegated :
    let s := { inMode .user with unit := { (inMode .user).unit with ie := 0x20, ip := 0x20, mideleg := 0x20 } }
    s.budget = none ∧ Takeable s.unit 5 ∧ InterruptToS s.unit 5 :=
  ⟨rfl, ⟨by decide, rfl, rfl, fun _ => .inl rfl, fun h => absurd rfl h⟩, rfl⟩

end Sys2Proof.Tests
end

section
/-! SUPPORT. What every effect of an instruction does to the configuration, the integer registers, the pc, memory and the
reservation, one lemma per field; the invariant of a step from them (O10). -/

namespace Sys2Proof.Machine

open Sys2Proof.Spec

/-- A step has an effect of some instruction on the state it begins with; a trap at fetch or decode is an effect of any. -/
theorem step_effect {s t : State} (h : step s = .next t) : ∃ i, Effect i s.begin t := by
  obtain ⟨c, tval, rfl⟩ | ⟨-, i, -, -, he⟩ := step_cases s t h
  · exact ⟨.ecall, .trap c tval⟩
  · exact ⟨i, he⟩

/-- The default advance depends on the pc and the configuration alone. -/
theorem State.advance_pc_congr {s u : State} (hpc : u.pc = s.pc) (hcfg : u.cfg = s.cfg) (len : Nat) :
    (u.advance len).pc = (s.advance len).pc := by
  apply BitVec.eq_of_toNat_eq
  rw [State.advance_pc_toNat, State.advance_pc_toNat, hpc, State.w, State.w, hcfg]

theorem State.result_pc_congr {s u : State} (hpc : u.pc = s.pc) (hcfg : u.cfg = s.cfg) (len : Nat) (rd : Reg) {w : Nat}
    (v : BitVec w) : (u.result len rd v).pc = (s.advance len).pc :=
  (State.result_pc u len rd v).trans (State.advance_pc_congr hpc hcfg len)

/-- No instruction changes the configuration, the tables, the event flag or the budget. -/
theorem Effect.keeps_config {i : Instr} {s t : State} (h : Effect i s t) :
    t.cfg = s.cfg ∧ t.ftable = s.ftable ∧ t.ctable = s.ctable ∧ t.eventFlag = s.eventFlag ∧ t.budget = s.budget := by
  cases h
  case store h => simp [State.memWrite_fields h]
  case scWrites h => simp [State.memWrite_fields h]
  case amo h => simp [State.memWrite_fields h]
  all_goals simp

/-- An instruction writes at most one integer register, at XLEN bits. -/
theorem Effect.x_cases {i : Instr} {s t : State} (h : Effect i s t) :
    t.x = s.x ∨ ∃ (rd : Reg) (v : BitVec s.w), t.x = (s.wrX rd v).x := by
  cases h
  case result rd w v hw _ _ => subst hw; exact .inr ⟨rd, v, by simp⟩
  case jump len rd _ _ _ _ => exact .inr ⟨rd, s.nextPc s.w len, rfl⟩
  case store h => left; simp [State.memWrite_fields h]
  case lr rd _ v _ => exact .inr ⟨rd, v, by simp [State.wrX_x]⟩
  case scWrites rd _ _ _ _ _ _ _ h => exact .inr ⟨rd, 0, by simp [State.wrX_x, State.memWrite_fields h]⟩
  case scFails rd _ => exact .inr ⟨rd, BitVec.ofNat s.w 1, by simp [State.wrX_x]⟩
  case amo rd _ v _ _ _ _ _ h => exact .inr ⟨rd, v, by simp [State.wrX_x, State.memWrite_fields h]⟩
  case fpToX rd v _ _ => exact .inr ⟨rd, v, by simp⟩
  case fpCsr rd _ _ old _ _ => exact .inr ⟨rd, old, by simp [State.wrX_x]⟩
  case csrWrite rd _ _ old _ _ _ _ _ _ => exact .inr ⟨rd, old, by simp [State.wrX_x]⟩
  case csrOpen rd _ old _ _ _ => exact .inr ⟨rd, old, by simp [State.wrX_x]⟩
  all_goals left; simp

/-- The next pc: a trap's, the default advance, an aligned target, or where the external unit redirects a return. -/
theorem Effect.pc_cases {i : Instr} {s t : State} (h : Effect i s t) :
    (∃ c tval, t = s.raise c tval) ∨
    (∃ len, LenOk s len ∧ t.pc = (s.advance len).pc) ∨
    (∃ target : BitVec s.w, s.misalignedTarget target = false ∧ t.pc = target.setWidth 64) ∨
    (∃ k target, s.privAnswer k = .redirect target ∧ t.pc = (target.setWidth s.w).setWidth 64) := by
  cases h
  case trap c tval => exact .inl ⟨c, tval, rfl⟩
  case taken target _ ha => exact .inr (.inr (.inl ⟨target, ha, rfl⟩))
  case jump target _ _ ha => exact .inr (.inr (.inl ⟨target, ha, rfl⟩))
  case redirect k target _ ha => exact .inr (.inr (.inr ⟨k, target, ha, rfl⟩))
  case advance len _ hl => exact .inr (.inl ⟨len, hl, rfl⟩)
  case result len _ _ _ _ _ hl => exact .inr (.inl ⟨len, hl, State.result_pc_congr rfl rfl _ _ _⟩)
  case store len _ _ _ _ _ _ hl h =>
    obtain ⟨hcfg, -, -, -, hpc, -⟩ := State.memWrite_fields h
    exact .inr (.inl ⟨len, hl, State.advance_pc_congr hpc hcfg _⟩)
  case scWrites h =>
    obtain ⟨hcfg, -, -, -, hpc, -⟩ := State.memWrite_fields h
    exact .inr (.inl ⟨4, .inl rfl, State.result_pc_congr (u := State.dropResv _) hpc hcfg _ _ _⟩)
  case amo h =>
    obtain ⟨hcfg, -, -, -, hpc, -⟩ := State.memWrite_fields h
    exact .inr (.inl ⟨4, .inl rfl, State.result_pc_congr hpc hcfg _ _ _⟩)
  case fp len _ _ _ _ hl => exact .inr (.inl ⟨len, hl, State.advance_pc_congr (by simp) (by simp) _⟩)
  case fpToX => exact .inr (.inl ⟨4, .inl rfl, State.advance_pc_congr (by simp) (by simp) _⟩)
  case proceed => exact .inr (.inl ⟨4, .inl rfl, State.advance_pc_congr (by simp) (by simp) _⟩)
  all_goals exact .inr (.inl ⟨4, .inl rfl, State.result_pc_congr (by simp) (by simp) _ _ _⟩)

/-- Memory stays in its canonical form. -/
theorem Effect.keeps_memCanonical {i : Instr} {s t : State} (h : Effect i s t) (hw : s.MemCanonical) : t.MemCanonical := by
  unfold State.MemCanonical at *
  cases h
  case store h => simpa using State.memWrite_wf _ _ _ _ _ h hw
  case scWrites h => simpa using State.memWrite_wf _ _ _ _ _ h hw
  case amo h => simpa using State.memWrite_wf _ _ _ _ _ h hw
  all_goals simpa using hw

/-- The reservation address is kept, or LR makes it the block of an address. -/
theorem Effect.resvAddr_cases {i : Instr} {s t : State} (h : Effect i s t) :
    t.resvAddr = s.resvAddr ∨ ∃ a : BitVec s.w, t.resvAddr = resvBlock s.cfg a := by
  cases h
  case lr a _ _ => exact .inr ⟨a, by simp⟩
  case store h => left; simp [State.memWrite_fields h]
  case scWrites h => left; simp [State.memWrite_fields h]
  case amo h => left; simp [State.memWrite_fields h]
  all_goals left; simp

/-- No instruction changes the stored slot of x0. -/
theorem Effect.x_zero {i : Instr} {s t : State} (h : Effect i s t) : t.x[0] = s.x[0] := by
  obtain hx | ⟨rd, v, hx⟩ := h.x_cases
  · rw [hx]
  · rw [hx, State.wrX_x_zero]

/-! ## Words of XLEN bits in 64-bit slots -/

theorem State.toNat_slot (s : State) (v : BitVec s.w) : (v.setWidth 64).toNat = v.toNat := by
  rw [BitVec.toNat_setWidth, Nat.mod_eq_of_lt (Nat.lt_of_lt_of_le v.isLt (Nat.pow_le_pow_right (by decide) s.w_le))]

theorem State.fitsXLen_slot (s : State) (v : BitVec s.w) : FitsXLen s.cfg (v.setWidth 64) := by
  unfold FitsXLen
  rw [s.toNat_slot]
  exact v.isLt

theorem resvBlock_toNat (s : State) (a : BitVec s.w) :
    (resvBlock s.cfg a).toNat = a.toNat - a.toNat % s.cfg.resvGranule := by
  have hlt : a.toNat < 2 ^ 64 := Nat.lt_of_lt_of_le a.isLt (Nat.pow_le_pow_right (by decide) s.w_le)
  rw [resvBlock, BitVec.toNat_ofNat, Nat.mod_eq_of_lt (by omega)]

theorem Effect.keeps_resvFit {i : Instr} {s t : State} (h : Effect i s t) (hr : FitsXLen s.cfg s.resvAddr) :
    FitsXLen s.cfg t.resvAddr := by
  obtain hk | ⟨a, hk⟩ := h.resvAddr_cases
  · rwa [hk]
  · have := a.isLt
    rw [hk, FitsXLen, resvBlock_toNat]
    exact Nat.lt_of_le_of_lt (Nat.sub_le _ _) this

theorem Effect.keeps_resvAligned {i : Instr} {s t : State} (h : Effect i s t) (hr : s.ResvAligned) : t.ResvAligned := by
  unfold State.ResvAligned at *
  rw [h.keeps_config.1]
  obtain hk | ⟨a, hk⟩ := h.resvAddr_cases
  · rwa [hk]
  · rw [hk, resvBlock_toNat, Nat.sub_mod_eq_zero_of_mod_eq (Nat.mod_mod _ _).symm]

theorem State.raise_pc_fits (s : State) (c : Cause) (tval : Word) : FitsXLen s.cfg (s.raise c tval).pc := by
  unfold State.raise
  split <;> exact s.fitsXLen_slot _

/-- The next pc fits in XLEN bits, whatever the pc was. -/
theorem Effect.pc_fits {i : Instr} {s t : State} (h : Effect i s t) : FitsXLen s.cfg t.pc := by
  obtain ⟨c, tval, rfl⟩ | ⟨len, -, hpc⟩ | ⟨target, -, hpc⟩ | ⟨k, target, -, hpc⟩ := h.pc_cases
  · exact s.raise_pc_fits c tval
  all_goals rw [hpc]; exact s.fitsXLen_slot _

theorem Effect.keeps_xFit {i : Instr} {s t : State} (h : Effect i s t) (hx : ∀ k : Fin 32, FitsXLen s.cfg s.x[k]) :
    ∀ k : Fin 32, FitsXLen s.cfg t.x[k] := by
  intro k
  obtain ht | ⟨rd, v, ht⟩ := h.x_cases
  · rw [ht]; exact hx k
  · rw [ht, State.wrX_x]
    split
    · exact hx k
    · by_cases hk : rd.toNat = k.val
      · simpa [hk] using s.fitsXLen_slot v
      · simpa [Vector.getElem_set_ne, hk] using hx k

/-- The invariant is one of effects. -/
theorem Effect.keeps_inv {i : Instr} {s t : State} (h : Effect i s t) (hi : Inv s) : Inv t := by
  obtain ⟨⟨hft, hct⟩, hmem, hzero, ⟨hx, -, hresv⟩, halign⟩ := hi
  obtain ⟨hcfg, hft', hct', -, -⟩ := h.keeps_config
  refine ⟨⟨?_, ?_⟩, h.keeps_memCanonical hmem, h.x_zero.trans hzero, ⟨?_, ?_, ?_⟩, h.keeps_resvAligned halign⟩
  · rw [hft', hft, hcfg]
  · rw [hct', hct, hcfg]
  all_goals rw [hcfg]
  · exact h.keeps_xFit hx
  · exact h.pc_fits
  · exact h.keeps_resvFit hresv

/-- What a step does before it fetches touches no field of the invariant. -/
theorem begin_inv {s : State} (hi : Inv s) : Inv s.begin := hi

/-- Settles O10: every effect keeps the invariant. -/
theorem stepKeepsInvariant : Obligations.StepKeepsInvariant := by
  intro s t hi h
  obtain ⟨i, he⟩ := step_effect h
  exact he.keeps_inv (begin_inv hi)

end Sys2Proof.Machine
end

section
/-! SUPPORT. With the standard unit every effect leaves the pc aligned (O11), and none writes x0 (O50). -/

namespace Sys2Proof.Machine

open Sys2Proof.Spec

/-! ## Alignment of the pc -/

theorem instrAlign_dvd_four (cfg : Config) : cfg.instrAlign ∣ 4 := by
  unfold Config.instrAlign
  split <;> decide

theorem State.instrAlign_dvd_pow (s : State) : s.cfg.instrAlign ∣ 2 ^ s.w :=
  Nat.dvd_trans (instrAlign_dvd_four s.cfg) (Nat.pow_dvd_pow 2 (Nat.le_trans (by decide : 2 ≤ 32) s.w_pos))

theorem LenOk.instrAlign_dvd {s : State} {len : Nat} (h : LenOk s len) : s.cfg.instrAlign ∣ len := by
  obtain rfl | ⟨rfl, hc⟩ := h
  · exact instrAlign_dvd_four s.cfg
  · simp [Config.instrAlign, hc]

/-- A mask whose low k bits are clear leaves a multiple of 2^k. -/
theorem toNat_and_mod_two_pow (v m : Word) (k : Nat) (hm : m.setWidth k = 0) : (v &&& m).toNat % 2 ^ k = 0 := by
  rw [← BitVec.toNat_setWidth, BitVec.setWidth_and, hm]
  simp

theorem tvecBase_aligned (cfg : Config) (tvec : Word) : (tvecBase tvec).toNat % cfg.instrAlign = 0 :=
  Nat.mod_eq_zero_of_dvd
    (Nat.dvd_trans (instrAlign_dvd_four cfg) (Nat.dvd_of_mod_eq_zero (toNat_and_mod_two_pow tvec _ 2 (by decide))))

theorem maskEpc_aligned (cfg : Config) (epc : Word) : (maskEpc cfg epc).toNat % cfg.instrAlign = 0 := by
  unfold maskEpc Config.instrAlign
  split
  · exact toNat_and_mod_two_pow epc _ 1 (by decide)
  · exact toNat_and_mod_two_pow epc _ 2 (by decide)

/-- Cutting an aligned word to XLEN bits keeps it aligned. -/
theorem State.slot_aligned (s : State) {v : Word} (hv : v.toNat % s.cfg.instrAlign = 0) :
    ((v.setWidth s.w).setWidth 64).toNat % s.cfg.instrAlign = 0 := by
  rw [s.toNat_slot, BitVec.toNat_setWidth, Nat.mod_mod_of_dvd _ s.instrAlign_dvd_pow, hv]

theorem State.raise_pc_aligned (s : State) (c : Cause) (tval : Word) (hu : s.cfg.unitKind = .standard) :
    (s.raise c tval).pc.toNat % s.cfg.instrAlign = 0 := by
  rw [State.raise_standard _ _ _ hu]
  refine s.slot_aligned ?_
  unfold exceptionTarget
  split <;> exact tvecBase_aligned _ _

theorem State.advance_pc_aligned (s : State) {len : Nat} (hl : LenOk s len) (hp : s.PcAligned) :
    (s.advance len).pc.toNat % s.cfg.instrAlign = 0 := by
  rw [State.advance_pc_toNat, Nat.mod_mod_of_dvd _ s.instrAlign_dvd_pow]
  exact Nat.mod_eq_zero_of_dvd (Nat.dvd_add (Nat.dvd_of_mod_eq_zero hp) hl.instrAlign_dvd)

/-- The standard unit redirects a trap return alone, and to an aligned address. -/
theorem State.redirect_aligned (s : State) {k : PrivKind} {target : Word} (hu : s.cfg.unitKind = .standard)
    (h : s.privAnswer k = .redirect target) : target.toNat % s.cfg.instrAlign = 0 := by
  have hmask : ∃ epc, target = maskEpc s.cfg epc := by
    unfold State.privAnswer unitPrivAnswer at h
    rw [hu] at h
    cases k <;> simp only at h <;> split at h <;> cases h <;> exact ⟨_, rfl⟩
  obtain ⟨epc, rfl⟩ := hmask
  exact maskEpc_aligned _ _

/-- With the standard unit every effect on a state with an aligned pc leaves the pc aligned. -/
theorem Effect.keeps_pcAligned {i : Instr} {s t : State} (h : Effect i s t) (hu : s.cfg.unitKind = .standard)
    (hp : s.PcAligned) : t.PcAligned := by
  unfold State.PcAligned
  rw [h.keeps_config.1]
  obtain ⟨c, tval, rfl⟩ | ⟨len, hl, hpc⟩ | ⟨target, ha, hpc⟩ | ⟨k, target, hk, hpc⟩ := h.pc_cases
  · exact s.raise_pc_aligned c tval hu
  · rw [hpc]; exact s.advance_pc_aligned hl hp
  · rw [hpc, s.toNat_slot]; simpa [State.misalignedTarget] using ha
  · rw [hpc]; exact s.slot_aligned (s.redirect_aligned hu hk)

/-- Settles O11: every effect keeps the pc aligned. -/
theorem stepKeepsPcAligned : Obligations.StepKeepsPcAligned := by
  intro s t hu hp h
  obtain ⟨i, he⟩ := step_effect h
  exact he.keeps_pcAligned hu hp

/-! ## x0 -/

/-- Settles O50: a step is an effect, and no effect writes the slot of x0. -/
theorem zeroRegisterNeverChanges : Obligations.ZeroRegisterNeverChanges := by
  intro s t h
  obtain ⟨i, he⟩ := step_effect h
  exact ⟨he.x_zero, t.rdX_zero⟩

end Sys2Proof.Machine
end

section
/-! SUPPORT. What every effect does to FS, the flags and frm (O52), and to the standard CSR/trap unit (O54). -/

namespace Sys2Proof.Machine

open Sys2Proof.Spec

/-! ## Which instruction an effect belongs to -/

theorem eq_ret_of_kindOf {i : Instr} (h : kindOf i = .ret) : i = .sret ∨ i = .mret := by
  cases i with
  | sret => exact .inl rfl
  | mret => exact .inr rfl
  | _ => cases h

theorem eq_wait_of_kindOf {i : Instr} (h : kindOf i = .wait) : i = .wfi ∨ ∃ rs1 rs2, i = .sfenceVma rs1 rs2 := by
  cases i with
  | wfi => exact .inl rfl
  | sfenceVma rs1 rs2 => exact .inr ⟨rs1, rs2, rfl⟩
  | _ => cases h

/-- An instruction that names a CSR is one of the six CSR instructions. -/
theorem exists_isCsr (s : State) {i : Instr} {csr : BitVec 12} (h : csrOf i = some csr) :
    ∃ o, IsCsr s o ∧ o.instr = i ∧ o.csr = csr := by
  cases i with
  | csrrw rd c rs1 => cases h; exact ⟨_, .rw _ _ _, rfl, rfl⟩
  | csrrs rd c rs1 => cases h; exact ⟨_, .rs _ _ _, rfl, rfl⟩
  | csrrc rd c rs1 => cases h; exact ⟨_, .rc _ _ _, rfl, rfl⟩
  | csrrwi rd c u => cases h; exact ⟨_, .rwi _ _ _, rfl, rfl⟩
  | csrrsi rd c u => cases h; exact ⟨_, .rsi _ _ _, rfl, rfl⟩
  | csrrci rd c u => cases h; exact ⟨_, .rci _ _ _, rfl, rfl⟩
  | _ => cases h

theorem isFpCsr_iff (csr : BitVec 12) : isFpCsr csr = true ↔ csr = 1 ∨ csr = 2 ∨ csr = 3 := by
  simp [isFpCsr, or_assoc]

/-! ## FS, the flags and frm -/

/-- What an instruction does to FS, the FP registers, the flags and frm: nothing; flags accrued and FS Dirty; a CSR
instruction on fflags, frm or fcsr that makes FS Dirty; or FS alone, by a call on the external unit. -/
theorem Effect.fpState_cases {i : Instr} {s t : State} (h : Effect i s t) :
    (t.fs = .dirty ∧ t.frm = s.frm ∧ ∃ fl, t.fflags = s.fflags ||| fl) ∨
    (t.fs = .dirty ∧ ∃ csr, csrOf i = some csr ∧ isFpCsr csr = true) ∨
    ((t.f = s.f ∧ t.fflags = s.fflags ∧ t.frm = s.frm) ∧
      (t.fs = s.fs ∨ (∃ csr, csrOf i = some csr ∧ isFpCsr csr = false) ∨
        (s.cfg.unitKind = .unspecified ∧ (kindOf i = .ret ∨ kindOf i = .wait)))) := by
  cases h
  case fp len rd v fl _ _ => exact .inl ⟨by simp, by simp, fl, by simp⟩
  case fpToX rd v fl _ =>
    by_cases hfl : fl = 0#5
    · exact .inr (.inr ⟨by simp [hfl], .inl (by simp [hfl])⟩)
    · exact .inl ⟨by simp [hfl], by simp, fl, by simp⟩
  case fpCsr rd csr v old hk hf => exact .inr (.inl ⟨by simp, csr, hk, hf⟩)
  case csrWrite rd csr v old cur hk _ hf _ _ => exact .inr (.inr ⟨by simp, .inr (.inl ⟨csr, hk, hf⟩)⟩)
  case csrOpen rd csr old hk hf _ => exact .inr (.inr ⟨by simp, .inr (.inl ⟨csr, hk, hf⟩)⟩)
  case redirect k target hk _ =>
    refine .inr (.inr ⟨by simp, ?_⟩)
    cases hu : s.cfg.unitKind with
    | standard => left; simp [State.privAfter_standard _ _ hu]
    | unspecified => exact .inr (.inr ⟨rfl, .inl hk⟩)
  case proceed k hk _ _ =>
    refine .inr (.inr ⟨by simp, ?_⟩)
    cases hu : s.cfg.unitKind with
    | standard => left; simp [State.privAfter_standard _ _ hu]
    | unspecified => exact .inr (.inr ⟨rfl, hk⟩)
  case store h => exact .inr (.inr (by simp [State.memWrite_fields h]))
  case scWrites h => exact .inr (.inr (by simp [State.memWrite_fields h]))
  case amo h => exact .inr (.inr (by simp [State.memWrite_fields h]))
  all_goals exact .inr (.inr (by simp))

theorem and_or_self_left (a b : FpFlags) : a &&& (a ||| b) = a := by
  ext k hk
  simp +contextual

/-- Settles O52, case by case of what an effect does to FS, the flags and frm. -/
theorem fpStatusRules : Obligations.FpStatusRules := by
  intro i s t h
  obtain ⟨hfs, hfrm, fl, hfl⟩ | ⟨hfs, csr, hc, -⟩ | ⟨⟨hf, hfl, hfrm⟩, hfs⟩ := (effect_of_exec i s t h).fpState_cases
  · exact ⟨fun _ => hfs, fun _ => .inl hfs, fun _ => ⟨by rw [hfl, and_or_self_left], hfrm⟩⟩
  · obtain ⟨o, ho, hi, -⟩ := exists_isCsr s hc
    exact ⟨fun _ => hfs, fun _ => .inl hfs, fun hno => absurd hi (hno o ho)⟩
  · refine ⟨by simp [hf, hfl, hfrm], fun hne => .inr ?_, fun _ => ⟨by simp [hfl], hfrm⟩⟩
    obtain heq | ⟨csr, hc, hn⟩ | ⟨hu, hk⟩ := hfs
    · exact absurd heq hne
    · obtain ⟨o, ho, hi, rfl⟩ := exists_isCsr s hc
      exact .inl ⟨o, ho, hi, by rw [← isFpCsr_iff, hn]; exact Bool.false_ne_true⟩
    · refine .inr ⟨hu, ?_⟩
      obtain hk | hk := hk
      · obtain rfl | rfl := eq_ret_of_kindOf hk <;> simp
      · obtain rfl | ⟨rs1, rs2, rfl⟩ := eq_wait_of_kindOf hk <;> simp

/-! ## The external unit and the mode -/

/-- Every CSR the standard unit holds needs a mode above U. -/
theorem mode_of_unitCsrRead {cfg : Config} {fs : FS} {u : TrapUnit} {csr : BitVec 12} {cur : Word} :
    unitCsrRead cfg fs u csr = some cur → 0 < (csr.extractLsb' 8 2).toNat := by
  unfold unitCsrRead
  iterate 16
    refine iteInduction (motive := fun r => r = some cur → 0 < (csr.extractLsb' 8 2).toNat)
      (fun hc _ => by subst hc; decide) fun _ => ?_
  nofun

theorem priv_unitCsrWrite (u : TrapUnit) (csr : BitVec 12) (v : Word) : (unitCsrWrite u csr v).priv = u.priv := by
  unfold unitCsrWrite
  iterate 16 refine iteInduction (motive := fun x : TrapUnit => x.priv = u.priv) (fun _ => rfl) fun _ => ?_
  rfl

theorem not_user_of_csrForbidden {u : TrapUnit} {csr : BitVec 12} {d : Bool} (hm : 0 < (csr.extractLsb' 8 2).toNat)
    (h : csrForbidden u csr d = false) : u.priv ≠ .user := by
  intro hu
  simp only [csrForbidden, hu, Priv.code, Bool.or_eq_false_iff, decide_eq_false_iff_not] at h
  exact h.1 hm

/-- U-mode may not return from a trap. -/
theorem State.not_user_of_return (s : State) {k : PrivKind} (hu : s.cfg.unitKind = .standard) (hk : k.isReturn = true)
    (h : s.privAnswer k ≠ .illegal) : s.unit.priv ≠ .user := by
  intro hp
  cases k with
  | sret => simp [State.privAnswer, hu, unitPrivAnswer, hp] at h
  | mret => simp [State.privAnswer, hu, unitPrivAnswer, hp] at h
  | wfi => cases hk
  | sfenceVma => cases hk

theorem isReturn_of_redirect (s : State) {k : PrivKind} {target : Word} (hu : s.cfg.unitKind = .standard)
    (h : s.privAnswer k = .redirect target) : k.isReturn = true := by
  unfold State.privAnswer at h
  rw [hu] at h
  cases k with
  | sret => rfl
  | mret => rfl
  | wfi => simp only [unitPrivAnswer] at h; split at h <;> cases h
  | sfenceVma => simp only [unitPrivAnswer] at h; split at h <;> cases h

theorem unitPrivAfter_of_not_return (u : TrapUnit) {k : PrivKind} (hk : k.isReturn = false) : unitPrivAfter u k = u := by
  cases k with
  | sret => cases hk
  | mret => cases hk
  | wfi => rfl
  | sfenceVma => rfl

/-- What an instruction does to the standard unit: a trap; nothing but FS, which stays or becomes Dirty; a trap return above
U-mode; or a write above U-mode of a CSR, which keeps the mode. -/
theorem Effect.unit_cases {i : Instr} {s t : State} (h : Effect i s t) (hu : s.cfg.unitKind = .standard) :
    t.trapCall ≠ none ∨
    (t.unit = s.unit ∧ (t.fs = s.fs ∨ t.fs = .dirty) ∧ t.map = s.map) ∨
    ((kindOf i = .ret ∨ t.unit.priv = s.unit.priv) ∧ s.unit.priv ≠ .user) := by
  cases h
  case trap => left; simp
  case redirect k target hk ha =>
    have hret := isReturn_of_redirect s hu ha
    exact .inr (.inr ⟨.inl hk, s.not_user_of_return hu hret (by simp [ha])⟩)
  case proceed k hk hr ha =>
    cases hret : k.isReturn with
    | true => exact .inr (.inr ⟨.inl (hr.1 hret), s.not_user_of_return hu hret ha⟩)
    | false =>
      refine .inr (.inl ?_)
      simp [State.privAfter_standard _ _ hu, unitPrivAfter_of_not_return _ hret]
  case csrWrite rd csr v old cur _ _ _ hp hr =>
    refine .inr (.inr ⟨.inr ?_, not_user_of_csrForbidden (mode_of_unitCsrRead hr) hp⟩)
    simp [priv_unitCsrWrite]
  case csrOpen hu' => rw [hu] at hu'; cases hu'
  case fpToX rd v fl _ =>
    refine .inr (.inl ?_)
    by_cases hfl : fl = 0#5 <;> simp [hfl]
  case store h => exact .inr (.inl (by simp [State.memWrite_fields h]))
  case scWrites h => exact .inr (.inl (by simp [State.memWrite_fields h]))
  case amo h => exact .inr (.inl (by simp [State.memWrite_fields h]))
  all_goals exact .inr (.inl (by simp))

/-- Settles O54, case by case of what an effect does to the standard unit. -/
theorem privilegeIsolation : Obligations.PrivilegeIsolation := by
  intro i s t hu _ h
  obtain htrap | ⟨hunit, hfs, hmap⟩ | ⟨hk, hp⟩ := (effect_of_exec i s t h).unit_cases hu
  · exact ⟨fun _ => .inl htrap, fun _ hn => absurd hn htrap⟩
  · exact ⟨fun hne => absurd (congrArg TrapUnit.priv hunit) hne, fun _ _ => ⟨hunit, hfs, hmap⟩⟩
  · refine ⟨fun hne => .inr ?_, fun hp' => absurd hp' hp⟩
    obtain hk | heq := hk
    · exact eq_ret_of_kindOf hk
    · exact absurd heq hne

end Sys2Proof.Machine
end

section
/-! SUPPORT. Traps in the terms of the statements, the six CSR instructions as one, and their accesses to fflags, frm and
fcsr: forbidden (O34) and completed (O32). -/

namespace Sys2Proof.Machine

open Sys2Proof.Spec

/-! ## A trap, in the terms of the statements -/

theorem tvecBase_toNat (tvec : Word) : (tvecBase tvec).toNat = tvec.toNat / 4 * 4 := by
  have hmod : (tvecBase tvec).toNat % 4 = 0 := toNat_and_mod_two_pow tvec _ 2 (by decide)
  have hdiv : (tvecBase tvec).toNat / 4 = tvec.toNat / 4 := by
    have hshift : tvecBase tvec >>> 2 = tvec >>> 2 := by
      have hbit : ∀ k : Fin 62, (18446744073709551612#64).getLsbD (2 + k) = true := by decide
      ext k hk
      by_cases h : k < 62
      · simp [tvecBase, hbit ⟨k, h⟩]
      · simp [tvecBase, BitVec.getLsbD_of_ge tvec (2 + k) (by omega)]
    simpa [Nat.shiftRight_eq_div_pow] using congrArg BitVec.toNat hshift
  omega

theorem code_eq (c : Cause) : Spec.code c = c.code := by cases c <;> rfl

/-- A word cut to XLEN bits, as `wrap` says it. -/
theorem toNat_slot_eq_wrap (s : State) (v : Word) : (((v.setWidth s.w).setWidth 64).toNat : Int) = wrap s v.toNat := by
  rw [s.toNat_slot, BitVec.toNat_setWidth, wrap]
  push_cast
  rfl

theorem delegated_iff (s : State) (c : Cause) : delegated s.unit s.unit.medeleg c.code = true ↔ ToS s c := by
  simp [delegated, ToS, code_eq]

theorem standardEntry_raise (s : State) (c : Cause) (tval : Word) (hu : s.cfg.unitKind = .standard) :
    StandardEntry s (s.raise c tval) c tval := by
  rw [State.raise_standard _ _ _ hu]
  refine ⟨fun h => ?_, fun h => ?_⟩ <;> rw [← delegated_iff] at h
  · refine ⟨?_, ?_⟩
    · have hspp : (s.unit.priv == .supervisor) = decide (s.unit.priv = .supervisor) := by cases s.unit.priv <;> rfl
      simp only [unitException, h, if_true, enterS, code_eq, hspp]
    · rw [toNat_slot_eq_wrap, exceptionTarget, if_pos h, tvecBase_toNat]
      rfl
  · refine ⟨?_, ?_⟩
    · simp [unitException, h, enterM, code_eq]
    · rw [toNat_slot_eq_wrap, exceptionTarget, if_neg h, tvecBase_toNat]
      rfl

/-- Raising an exception is taking a trap, whatever the unit. -/
theorem trapTaken_raise (s : State) (c : Cause) (tval : Word) : TrapTaken s (s.raise c tval) c tval :=
  ⟨s.raise_frame c tval, fun hu => ⟨by rw [State.raise_standard _ _ _ hu], standardEntry_raise s c tval hu⟩⟩

theorem rawBits_eq (e : Enc) : rawBits e = e.bits.setWidth 64 := by
  cases e with
  | half h => simp [rawBits, Enc.bits]
  | full w => rfl

theorem trapsIllegal_of_exec {i : Instr} {s : State} (h : exec i s = .next (s.illegal i)) : TrapsIllegal i s :=
  ⟨_, h, by rw [rawBits_eq]; exact trapTaken_raise _ _ _⟩

/-! ## The six CSR instructions as one -/

theorem toNat_and_not {w : Nat} (a b : BitVec w) : (a &&& ~~~b).toNat = clearBits a.toNat b.toNat := by
  have h : a &&& ~~~b = a ^^^ (a &&& b) := by
    ext k hk
    cases ha : a[k] <;> simp [ha]
  rw [h, BitVec.toNat_xor, BitVec.toNat_and]
  rfl

/-- A CSR instruction is `csrInstr` of its CSR and destination, with an operation that computes what `newOf` says. -/
theorem exec_of_isCsr {s : State} {o : CsrOp} (h : IsCsr s o) :
    ∃ (newOf : BitVec s.w → BitVec s.w) (r d : Bool),
      exec o.instr s = .next (s.csrInstr o.instr o.rd o.csr newOf r d) ∧
      (r = true ↔ o.reads) ∧ (d = true ↔ o.writes) ∧ ∀ v, (newOf v).toNat = o.newOf v.toNat := by
  have hw := s.w_pos
  have huimm (u : BitVec 5) : (u.setWidth s.w).toNat = u.toNat := by
    rw [BitVec.toNat_setWidth, Nat.mod_eq_of_lt (Nat.lt_of_lt_of_le u.isLt (Nat.pow_le_pow_right (by decide) (by omega)))]
  cases h with
  | rw => exact ⟨_, _, _, rfl, by simp, by simp, fun v => by simp [xu]⟩
  | rs => exact ⟨_, _, _, rfl, by simp, by simp, fun v => by simp [xu]⟩
  | rc => exact ⟨_, _, _, rfl, by simp, by simp, fun v => toNat_and_not v _⟩
  | rwi => exact ⟨_, _, _, rfl, by simp, by simp, fun v => huimm _⟩
  | rsi => exact ⟨_, _, _, rfl, by simp, by simp, fun v => by simp [huimm]⟩
  | rci => exact ⟨_, _, _, rfl, by simp, by simp, fun v => (toNat_and_not v _).trans (by rw [huimm])⟩

/-- Only an instruction whose destination is x0 does not read its CSR. -/
theorem rd_of_not_reads {s : State} {o : CsrOp} (h : IsCsr s o) (hr : ¬o.reads) : o.rd = 0 := by
  cases h with
  | rw => exact Classical.not_not.1 hr
  | rwi => exact Classical.not_not.1 hr
  | _ => exact absurd trivial hr

/-! ## Forbidden accesses -/

theorem State.csrInstr_fp_off (s : State) (i : Instr) (rd : Reg) {csr : BitVec 12} (newOf : BitVec s.w → BitVec s.w)
    (r d : Bool) (hc : isFpCsr csr = true) (hf : s.cfg.fOn = false) : s.csrInstr i rd csr newOf r d = s.illegal i := by
  simp [State.csrInstr, hc, hf]

theorem State.csrInstr_forbidden (s : State) (i : Instr) (rd : Reg) {csr : BitVec 12} (newOf : BitVec s.w → BitVec s.w)
    (r d : Bool) (hc : isFpCsr csr = false) (hu : s.cfg.unitKind = .standard) (hf : csrForbidden s.unit csr d = true) :
    s.csrInstr i rd csr newOf r d = s.illegal i := by
  simp [State.csrInstr, hc, State.csrAccess, hu, hf]

theorem csrForbidden_iff (s : State) (o : CsrOp) (d : Bool) (hd : d = true ↔ o.writes) :
    csrForbidden s.unit o.csr d = true ↔ ¬CsrPermitted s o := by
  have hmode : (o.csr.extractLsb' 8 2).toNat = o.csr.toNat / 256 % 4 := by
    simp [BitVec.extractLsb'_toNat, Nat.shiftRight_eq_div_pow]
  have hro : (o.csr.extractLsb' 10 2 == 3) = true ↔ o.csr.toNat / 1024 = 3 := by
    have := o.csr.isLt
    rw [beq_iff_eq, ← BitVec.toNat_inj, BitVec.extractLsb'_toNat, Nat.shiftRight_eq_div_pow,
      Nat.mod_eq_of_lt (by omega)]
    rfl
  rw [csrForbidden, CsrPermitted, Bool.or_eq_true, decide_eq_true_iff, Bool.and_eq_true, hmode, hro, hd,
    Classical.not_and_iff_not_or_not, Nat.not_le, Classical.not_imp, Classical.not_not]
  cases s.unit.priv <;> rfl

/-- Settles O34: both kinds of access end in `illegal`. -/
theorem forbiddenCsrTraps : Obligations.ForbiddenCsrTraps := by
  intro s o ho
  obtain ⟨newOf, r, d, hexec, -, hd, -⟩ := exec_of_isCsr ho
  refine ⟨fun hf hc => trapsIllegal_of_exec ?_, fun hu hc hp => trapsIllegal_of_exec ?_⟩
  · rw [hexec, s.csrInstr_fp_off _ _ _ _ _ ((isFpCsr_iff _).2 hc) hf]
  · rw [← isFpCsr_iff, Bool.not_eq_true] at hc
    rw [hexec, s.csrInstr_forbidden _ _ _ _ _ hc hu ((csrForbidden_iff s o d hd).2 hp)]

/-! ## fflags, frm and fcsr -/

theorem State.csrInstr_fp_on (s : State) (i : Instr) (rd : Reg) {csr : BitVec 12} (newOf : BitVec s.w → BitVec s.w)
    (r d : Bool) (hc : isFpCsr csr = true) (hf : s.cfg.fOn = true) :
    s.csrInstr i rd csr newOf r d =
      (if d then s.fpCsrWrite csr (newOf (s.fpCsrRead s.w csr)) else s).result 4 rd
        (if r then s.fpCsrRead s.w csr else 0) := by
  simp [State.csrInstr, hc, hf]

/-- The value read, as a number. -/
theorem State.fpCsrRead_toNat (s : State) (csr : BitVec 12) :
    (s.fpCsrRead s.w csr).toNat = if csr = 1 then s.fflags.toNat else if csr = 2 then s.frm.toNat else fcsr s := by
  have hw : 2 ^ 8 ≤ 2 ^ s.w := Nat.pow_le_pow_right (by decide) (Nat.le_trans (by decide) s.w_pos)
  have hfl := s.fflags.isLt
  have hrm := s.frm.isLt
  have happ : (s.frm ++ s.fflags).toNat = fcsr s := by
    rw [BitVec.toNat_append, ← Nat.shiftLeft_add_eq_or_of_lt hfl, Nat.shiftLeft_eq]
    rfl
  by_cases h1 : csr = 1
  · rw [State.fpCsrRead, if_pos h1, if_pos h1, BitVec.toNat_setWidth, Nat.mod_eq_of_lt (by omega)]
  · by_cases h2 : csr = 2
    · rw [State.fpCsrRead, if_neg h1, if_pos h2, if_neg h1, if_pos h2, BitVec.toNat_setWidth, Nat.mod_eq_of_lt (by omega)]
    · rw [State.fpCsrRead, if_neg h1, if_neg h2, if_neg h1, if_neg h2, BitVec.toNat_setWidth, happ,
        Nat.mod_eq_of_lt (by unfold fcsr; omega)]

/-- A write of fflags, frm or fcsr, one equation for each. -/
theorem State.fpCsrWrite_cases (s : State) {w : Nat} (csr : BitVec 12) (v : BitVec w) :
    (csr = 1 ∧ s.fpCsrWrite csr v = { s with fflags := v.setWidth 5, fs := .dirty }) ∨
    (csr ≠ 1 ∧ csr = 2 ∧ s.fpCsrWrite csr v = { s with frm := v.setWidth 3, fs := .dirty }) ∨
    (csr ≠ 1 ∧ csr ≠ 2 ∧
      s.fpCsrWrite csr v = { s with fflags := v.setWidth 5, frm := v.extractLsb' 5 3, fs := .dirty }) := by
  by_cases h1 : csr = 1
  · exact .inl ⟨h1, if_pos h1⟩
  · by_cases h2 : csr = 2
    · exact .inr (.inl ⟨h1, h2, by rw [State.fpCsrWrite, if_neg h1, if_pos h2]⟩)
    · exact .inr (.inr ⟨h1, h2, by rw [State.fpCsrWrite, if_neg h1, if_neg h2]⟩)

theorem State.fpCsrWrite_fflags_toNat (s : State) {w : Nat} (csr : BitVec 12) (v : BitVec w) :
    (s.fpCsrWrite csr v).fflags.toNat = if csr = 2 then s.fflags.toNat else v.toNat % 32 := by
  obtain ⟨rfl, h⟩ | ⟨-, h2, h⟩ | ⟨-, h2, h⟩ := s.fpCsrWrite_cases csr v <;> rw [h]
  · rw [if_neg (by decide), BitVec.toNat_setWidth]
  · rw [if_pos h2]
  · rw [if_neg h2, BitVec.toNat_setWidth]

theorem State.fpCsrWrite_frm_toNat (s : State) {w : Nat} (csr : BitVec 12) (v : BitVec w) :
    (s.fpCsrWrite csr v).frm.toNat =
      if csr = 1 then s.frm.toNat else if csr = 2 then v.toNat % 8 else v.toNat / 32 % 8 := by
  obtain ⟨h1, h⟩ | ⟨h1, h2, h⟩ | ⟨h1, h2, h⟩ := s.fpCsrWrite_cases csr v <;> rw [h]
  · rw [if_pos h1]
  · rw [if_neg h1, if_pos h2, BitVec.toNat_setWidth]
  · rw [if_neg h1, if_neg h2, BitVec.extractLsb'_toNat, Nat.shiftRight_eq_div_pow]

/-- A write of fflags, frm or fcsr changes these and FS alone. -/
theorem State.fpCsrWrite_frame (s : State) {w : Nat} (csr : BitVec 12) (v : BitVec w) :
    ∃ fl rm, s.fpCsrWrite csr v = { s with fflags := fl, frm := rm, fs := .dirty } := by
  obtain ⟨-, h⟩ | ⟨-, -, h⟩ | ⟨-, -, h⟩ := s.fpCsrWrite_cases csr v <;> exact ⟨_, _, h⟩

theorem State.result_frame (s : State) (len : Nat) (rd : Reg) {w : Nat} (v : BitVec w) :
    ∃ x pc, s.result len rd v = { s with x := x, pc := pc } := by
  unfold State.result State.wrX
  split <;> exact ⟨_, _, rfl⟩

/-- Writing a result gives rd the value and leaves every other register. -/
theorem writesX_result {s u : State} (hx : u.x = s.x) (len : Nat) (rd : Reg) (v : BitVec s.w) {n : Nat}
    (hv : rd ≠ 0 → v.toNat = n) : WritesX s (u.result len rd v) rd n := by
  have hread (w : Nat) (r : Reg) : (u.result len rd v).rdX w r = (u.wrX rd v).rdX w r :=
    State.rdX_congr _ _ _ _ (State.result_x _ _ _ _)
  refine ⟨fun hrd => ?_, fun r hr => ?_, fun hrd => ?_⟩
  · rw [hread, State.rdX_wrX_same _ _ _ s.w_le hrd, hv hrd, wrap, ← hv hrd]
    exact (Int.emod_eq_of_lt (Int.natCast_nonneg _) (by exact_mod_cast v.isLt)).symm
  · rw [hread, State.rdX_wrX_other _ _ _ _ _ hr, State.rdX_congr _ _ _ _ hx]
  · rw [State.result_x, State.wrX_x, if_pos hrd, hx]

/-- The pc after the default advance, in the terms of the statements. -/
theorem advance_pc_eq_seqPc (s : State) (len : Nat) : ((s.advance len).pc.toNat : Int) = seqPc s len := by
  rw [State.advance_pc_toNat, seqPc, wrap]
  push_cast
  rfl

/-- Settles O32: the six instructions as one, which reads, writes where it writes, and puts the old value in rd. -/
theorem fpCsrResults : Obligations.FpCsrResults := by
  intro s o ho hf hc old new
  obtain ⟨newOf, r, d, hexec, hr, hd, hnew⟩ := exec_of_isCsr ho
  have hold : (s.fpCsrRead s.w o.csr).toNat = old := s.fpCsrRead_toNat o.csr
  rw [s.csrInstr_fp_on _ _ _ _ _ ((isFpCsr_iff _).2 hc) hf] at hexec
  have hrd : o.rd ≠ 0 → (if r then s.fpCsrRead s.w o.csr else 0).toNat = old := fun hne => by
    rw [if_pos (hr.2 (Classical.not_not.1 fun hn => hne (rd_of_not_reads ho hn))), hold]
  cases d with
  | false =>
    have hnw : ¬o.writes := fun h => Bool.false_ne_true (hd.2 h)
    rw [if_neg Bool.false_ne_true] at hexec
    obtain ⟨x, pc, hframe⟩ := s.result_frame 4 o.rd (if r then s.fpCsrRead s.w o.csr else 0)
    refine ⟨_, hexec, ?_, writesX_result rfl _ _ _ hrd, fun a => by simp, fun h => absurd h hnw, fun _ => by simp, ?_⟩
    · rw [← advance_pc_eq_seqPc, State.result_pc_congr (s := s) rfl rfl]
    · rw [hframe]
  | true =>
    rw [if_pos rfl] at hexec
    obtain ⟨fl, rm, hwrite⟩ := s.fpCsrWrite_frame o.csr (newOf (s.fpCsrRead s.w o.csr))
    obtain ⟨x, pc, hframe⟩ := (s.fpCsrWrite o.csr (newOf (s.fpCsrRead s.w o.csr))).result_frame 4 o.rd
      (if r then s.fpCsrRead s.w o.csr else 0)
    have hval : (newOf (s.fpCsrRead s.w o.csr)).toNat = new := by rw [hnew, hold]
    refine ⟨_, hexec, ?_, writesX_result (by simp) _ _ _ hrd, fun a => by simp, fun _ => ⟨?_, ?_, by simp⟩,
      fun h => absurd (hd.1 rfl) h, ?_⟩
    · rw [← advance_pc_eq_seqPc, State.result_pc_congr (s := s) (by simp) (by simp)]
    · rw [State.result_fflags, State.fpCsrWrite_fflags_toNat, hval]
    · rw [State.result_frm, State.fpCsrWrite_frm_toNat, hval]
    · rw [hframe, hwrite]

end Sys2Proof.Machine
end

section
/-! SUPPORT. When a batch ends (O56), what the tables hold, and that configuration changes only between batches (O58). -/

namespace Sys2Proof.Machine

open Sys2Proof.Spec

/-! ## Batches -/

theorem step_keeps_config {s t : State} (h : step s = .next t) :
    t.cfg = s.cfg ∧ t.ftable = s.ftable ∧ t.ctable = s.ctable ∧ t.eventFlag = s.eventFlag ∧
    t.budget = s.budget.map (· - 1) := by
  obtain ⟨i, he⟩ := step_effect h
  exact he.keeps_config

theorem batchOver_startBatch (s : State) (n : Nat) : (s.startBatch n).batchOver = (n == 0 || s.eventFlag) := by
  simp [State.batchOver, State.startBatch]

theorem runSteps_of_over (n : Nat) {s : State} (h : s.batchOver = true) : runSteps n s = .next s := by
  cases n with
  | zero => rfl
  | succ n => rw [runSteps, if_pos h]

theorem runSteps_succ (n : Nat) {s t : State} (h : s.batchOver = false) (ht : step s = .next t) :
    runSteps (n + 1) s = runSteps n t := by
  rw [runSteps, h, if_neg Bool.false_ne_true, ht]

theorem runBatch_of_runSteps {n : Nat} {s t : State} (h : runSteps n (s.startBatch n) = .next t) :
    runBatch n s = .next t.endBatch := by
  rw [runBatch, h]

/-- What is left of a batch after a step that does not trap is a batch of the rest of its budget. -/
theorem startBatch_rest {s t : State} {n : Nat} (h : step (s.startBatch (n + 1)) = .next t) (ht : t.trapCall = none) :
    t.endBatch.startBatch n = t := by
  obtain ⟨-, -, -, -, hb⟩ := step_keeps_config h
  have hb : t.budget = some n := hb
  cases t
  simp_all [State.endBatch, State.startBatch]

/-- Settles O56, by the first test of `runSteps` and, where it lets a step run, the test after it. -/
theorem batchEnds : Obligations.BatchEnds := by
  intro s n
  refine ⟨fun h => ?_, fun t hn he ht htrap => ?_, fun t he ht htrap => ?_⟩
  · exact runBatch_of_runSteps (runSteps_of_over n (by simpa [batchOver_startBatch] using h))
  · obtain ⟨m, rfl⟩ := Nat.exists_eq_succ_of_ne_zero hn
    have hover : t.batchOver = true := by simp [State.batchOver, Option.isSome_iff_ne_none.2 htrap]
    exact runBatch_of_runSteps
      ((runSteps_succ m (by simp [batchOver_startBatch, he]) ht).trans (runSteps_of_over m hover))
  · have hrun : runSteps (n + 1) (s.startBatch (n + 1)) = runSteps n t :=
      runSteps_succ n (by simp [batchOver_startBatch, he]) ht
    refine ⟨?_, ?_⟩
    · change runBatch (n + 1) s = runBatch n t.endBatch
      rw [runBatch, runBatch, hrun, startBatch_rest ht htrap]
    · rintro rfl
      exact runBatch_of_runSteps hrun

/-! ## The tables -/

theorem tableFrom_length {α : Type} (f : Nat → α) (k a : Nat) : (tableFrom f k a).length = 2 ^ k := by
  induction k generalizing a with
  | zero => rfl
  | succ k ih => rw [tableFrom, List.length_append, ih, ih, Nat.pow_succ, Nat.mul_two]

theorem tableFrom_getD {α : Type} (f : Nat → α) (k a i : Nat) (d : α) (hi : i < 2 ^ k) :
    (tableFrom f k a).getD i d = f (a + i) := by
  induction k generalizing a i with
  | zero => obtain rfl : i = 0 := by omega
            rfl
  | succ k ih =>
    rw [tableFrom]
    by_cases h : i < 2 ^ k
    · rw [List.getD_eq_getElem?_getD, List.getElem?_append_left (by rwa [tableFrom_length]),
        ← List.getD_eq_getElem?_getD, ih _ _ h]
    · rw [List.getD_eq_getElem?_getD, List.getElem?_append_right (by rw [tableFrom_length]; omega), tableFrom_length,
        ← List.getD_eq_getElem?_getD, ih _ _ (by omega)]
      congr 1
      omega

/-- FTABLE holds at each identifier what the installers leave there. -/
theorem slotAt_buildFull (cfg : Config) (id : BitVec 9) : slotAt (buildFull cfg) id = slotFull cfg id := by
  have hid := id.isLt
  rw [slotAt, buildFull, tableFrom_getD _ _ _ _ _ (by omega), tableFrom_getD _ _ _ _ _ (by omega)]
  congr 1
  apply BitVec.eq_of_toNat_eq
  rw [BitVec.toNat_ofNat]
  omega

theorem decode_full (cfg : Config) (w : BitVec 32) : decode cfg (.full w) = (slotFull cfg (id32 w)).run cfg w := by
  rw [← slotAt_buildFull]
  rfl

/-- A slot depends on the installers whose pattern covers it alone. -/
theorem slotFull_eq (cfg : Config) (id : BitVec 9) :
    slotFull cfg id = (installsFull.filter fun i => i.pattern.covers id).foldl
      (fun h i => if i.on cfg then i.handler else h) .illegal := by
  rw [slotFull, List.foldl_filter]
  congr 1
  funext h i
  cases i.on cfg <;> cases i.pattern.covers id <;> rfl

/-! ## FLW comes and goes with F -/

theorem installs_flw : ∀ b : BitVec 1, (installsFull.filter fun i => i.pattern.covers (b ++ 2#3 ++ 1#5)) =
    [⟨.f, none, .pair 2 0b00001, .flw⟩] := by
  decide

theorem id32_encI (imm : BitVec 12) (rs1 : Reg) (f3 : BitVec 3) (rd : Reg) (op : BitVec 7) :
    id32 (encI imm rs1 f3 rd op) = imm.extractLsb' 5 1 ++ f3 ++ op.extractLsb' 2 5 := by
  simp [id32, encI, BitVec.extractLsb'_append_eq_of_add_le (w := 7), BitVec.extractLsb'_append_eq_of_add_le (w := 3),
    BitVec.extractLsb'_append_eq_of_le (w := 7), BitVec.extractLsb'_append_eq_of_le (w := 5),
    BitVec.extractLsb'_append_eq_of_le (w := 3)]

theorem fields_encI (imm : BitVec 12) (rs1 : Reg) (f3 : BitVec 3) (rd : Reg) (op : BitVec 7) :
    fRd (encI imm rs1 f3 rd op) = rd ∧ fRs1 (encI imm rs1 f3 rd op) = rs1 ∧ fImmI (encI imm rs1 f3 rd op) = imm := by
  simp [fRd, fRs1, fImmI, encI, BitVec.extractLsb'_append_eq_of_add_le (w := 5),
    BitVec.extractLsb'_append_eq_of_le (w := 7), BitVec.extractLsb'_append_eq_of_le (w := 5),
    BitVec.extractLsb'_append_eq_of_le (w := 3)]

theorem slotFull_flw (cfg : Config) (rd rs1 : Reg) (imm : BitVec 12) :
    slotFull cfg (id32 (encI imm rs1 0b010#3 rd 0b0000111#7)) = if cfg.fOn then .flw else .illegal := by
  rw [slotFull_eq, id32_encI]
  rw [show (0b0000111#7).extractLsb' 2 5 = 1#5 by decide, installs_flw]
  simp [FullInstall.on, Config.extOn]

theorem decode_flw (cfg : Config) (rd rs1 : Reg) (imm : BitVec 12) :
    decode cfg (encode (.flw rd rs1 imm)) = if cfg.fOn then .ok (.flw rd rs1 imm) else .error .illegalSlot := by
  have henc : encode (.flw rd rs1 imm) = .full (encI imm rs1 0b010#3 rd 0b0000111#7) := rfl
  obtain ⟨hrd, hrs1, himm⟩ := fields_encI imm rs1 0b010#3 rd 0b0000111#7
  rw [henc, decode_full, slotFull_flw]
  cases cfg.fOn
  · rfl
  · simp [FullHandler.run, hrd, hrs1, himm]

/-- Settles O58: a step is an effect, a configuration call tests the budget, and FLW's slot follows F. -/
theorem configurationChangesOnlyBetweenBatches : Obligations.ConfigurationChangesOnlyBetweenBatches := by
  refine ⟨fun s t h => step_keeps_config h, fun s e on => ⟨fun b hb => ?_, fun hb => ?_⟩, fun cfg rd rs1 imm hp => ⟨?_, ?_⟩⟩
  · rw [setExtension, hb]
  · exact ⟨{ s with cfg := setFlag s.cfg e on, ftable := buildFull (setFlag s.cfg e on),
                    ctable := buildHalf (setFlag s.cfg e on) },
      by simp [setExtension, hb], ⟨rfl, rfl⟩, rfl, by cases e <;> rfl⟩
  · rw [decode_flw, if_neg (by simp [setFlag, Config.fOn])]
  · rw [decode_flw, if_pos (by simp [setFlag, Config.fOn, hp])]

end Sys2Proof.Machine
end

section
/-! SUPPORT. A step on bytes that can be fetched and decoded is exec of the instruction (O7). -/

namespace Sys2Proof.Machine

open Sys2Proof.Spec

/-! ## A word decodes to an instruction of four bytes -/

/-- Whatever instruction the decoder answers has an encoding of four bytes. -/
def AnswersWords (r : Except Reject Instr) : Prop := ∀ i, r = .ok i → (encode i).len = 4

@[simp] theorem answersWords_error (e : Reject) : AnswersWords (.error e) := nofun

@[simp] theorem answersWords_ok (i : Instr) : AnswersWords (.ok i) ↔ (encode i).len = 4 := by
  simp [AnswersWords]

@[simp] theorem answersWords_accept (b : Bool) (i : Instr) :
    AnswersWords (accept b i) ↔ (b = true → (encode i).len = 4) := by
  cases b <;> simp [accept]

@[simp] theorem answersWords_ite (c : Prop) [Decidable c] (a b : Except Reject Instr) :
    AnswersWords (if c then a else b) ↔ (c → AnswersWords a) ∧ (¬c → AnswersWords b) := by
  split <;> simp [*]

theorem decodeAmoW_answersWords (w : BitVec 32) : AnswersWords (decodeAmoW w) := by
  simp [decodeAmoW, encode, Enc.len]

theorem decodeAmoD_answersWords (w : BitVec 32) : AnswersWords (decodeAmoD w) := by
  simp [decodeAmoD, encode, Enc.len]

theorem decodePriv_answersWords (w : BitVec 32) : AnswersWords (decodePriv w) := by
  simp [decodePriv, encode, Enc.len]

theorem decodeOpFpS_answersWords (cfg : Config) (w : BitVec 32) : AnswersWords (decodeOpFpS cfg w) := by
  simp [decodeOpFpS, encode, Enc.len]

theorem decodeOpFpD_answersWords (cfg : Config) (w : BitVec 32) : AnswersWords (decodeOpFpD cfg w) := by
  simp [decodeOpFpD, encode, Enc.len]

/-- Every handler of FTABLE answers instructions of four bytes. -/
theorem run_answersWords (cfg : Config) (k : FullHandler) (w : BitVec 32) : AnswersWords (k.run cfg w) := by
  cases k with
  | amoW => exact decodeAmoW_answersWords w
  | amoD => exact decodeAmoD_answersWords w
  | opFpS => exact decodeOpFpS_answersWords cfg w
  | opFpD => exact decodeOpFpD_answersWords cfg w
  | priv => exact decodePriv_answersWords w
  | _ => simp [FullHandler.run, encode, Enc.len]

theorem len_of_decode_full {cfg : Config} {w : BitVec 32} {i : Instr} (h : decode cfg (.full w) = .ok i) :
    (encode i).len = 4 := by
  rw [decode_full] at h
  exact run_answersWords _ _ _ _ h

theorem two_le_len (e : Enc) : 2 ≤ e.len := by cases e <;> simp [Enc.len]

/-! ## Fetching -/

theorem stepStart_eq (s : State) : stepStart s = s.begin := rfl

theorem byteAddr_natCast (s : State) (a k : Nat) : byteAddr s a k = (a + k) % 2 ^ s.w := by
  have h : ((a : Int) + k) % 2 ^ s.w = (((a + k) % 2 ^ s.w : Nat) : Int) := by push_cast; rfl
  rw [byteAddr, wrap, h, Int.toNat_natCast]

theorem readByte_fetch (s : State) (k : Nat) : s.begin.readByte .fetch (byteAddr s s.pc.toNat k) = fetched s k := by
  have hv : s.begin.verdict = s.verdict := rfl
  rw [State.readByte, fetched, hv]
  cases s.verdict .fetch (byteAddr s s.pc.toNat k) <;> simp

theorem ofNat_eq_parcel (lo hi : Byte) : BitVec.ofNat 16 (lo.toNat + 256 * (hi.toNat + 256 * 0)) = parcel lo hi := by
  have hlo := lo.isLt
  have hhi := hi.isLt
  apply BitVec.eq_of_toNat_eq
  rw [parcel, BitVec.toNat_append, ← Nat.shiftLeft_add_eq_or_of_lt hlo, BitVec.toNat_ofNat, Nat.shiftLeft_eq]
  omega

/-- A parcel k bytes above the pc, none of whose bytes fails, is fetched as its two bytes. -/
theorem fetch16_eq (s : State) (a : BitVec s.w) (k : Nat) (ha : a.toNat = byteAddr s s.pc.toNat k)
    (hal : ∀ j < 2, ∀ f, s.verdict .fetch (byteAddr s s.pc.toNat (k + j)) ≠ .fail f) :
    s.begin.fetch16 a = .ok (parcel (fetched s k) (fetched s (k + 1))) := by
  have haddrs : byteAddrs a 2 = [byteAddr s s.pc.toNat k, byteAddr s s.pc.toNat (k + 1)] := by
    simp [byteAddrs, List.range_succ, BitVec.toNat_add, ha, byteAddr_natCast, Nat.add_assoc]
  have hport : s.begin.portFault .fetch (byteAddrs a 2) = none := by
    rw [State.portFault_none, haddrs]
    intro b hb
    obtain rfl | rfl : b = _ ∨ b = _ := by simpa using hb
    · exact hal 0 (by decide)
    · exact hal 1 (by decide)
  rw [State.fetch16, hport, haddrs]
  simp only [State.readLE, readByte_fetch, ofNat_eq_parcel]

theorem pcMisaligned_begin {s : State} (h : (s.pc.toNat : Int) % align s = 0) : s.begin.pcMisaligned = false := by
  have halign : align s = (s.cfg.instrAlign : Int) := by
    unfold align Config.instrAlign
    split <;> rfl
  rw [halign] at h
  have h : s.pc.toNat % s.cfg.instrAlign = 0 := by exact_mod_cast h
  simp [State.pcMisaligned, h]

/-- What a step fetches at an aligned pc: the first parcel, and the second where the first starts a word. -/
theorem fetchEnc_begin {s : State} (hp : (s.pc.toNat : Int) % align s = 0) (h2 : Allowed s .fetch s.pc.toNat 2)
    (h4 : isFull (parcel (fetched s 0) (fetched s 1)) = true → Allowed s .fetch s.pc.toNat 4) :
    s.begin.fetchEnc = .ok (if isFull (parcel (fetched s 0) (fetched s 1)) then
      .full (parcel (fetched s 2) (fetched s 3) ++ parcel (fetched s 0) (fetched s 1))
      else .half (parcel (fetched s 0) (fetched s 1))) := by
  have hpc : (s.rdPc s.w).toNat = byteAddr s s.pc.toNat 0 := by
    rw [byteAddr_natCast, State.rdPc, BitVec.toNat_setWidth, Nat.add_zero]
  have hpc2 : (s.rdPc s.w + BitVec.ofNat s.w 2).toNat = byteAddr s s.pc.toNat 2 := by
    rw [BitVec.toNat_add, BitVec.toNat_ofNat, Nat.add_mod_mod, hpc, byteAddr_natCast, byteAddr_natCast, Nat.mod_add_mod,
      Nat.add_zero]
  have hfirst : s.begin.fetch16 (s.begin.rdPc s.begin.w) = .ok (parcel (fetched s 0) (fetched s 1)) :=
    fetch16_eq s (s.rdPc s.w) 0 hpc fun j hj => by simpa using h2 j hj
  simp only [State.fetchEnc, pcMisaligned_begin hp, hfirst, Bool.false_eq_true, if_false]
  split
  · next hfull =>
    have hsecond : s.begin.fetch16 (s.begin.rdPc s.begin.w + BitVec.ofNat s.begin.w 2) =
        .ok (parcel (fetched s 2) (fetched s 3)) :=
      fetch16_eq s (s.rdPc s.w + BitVec.ofNat s.w 2) 2 hpc2 fun j hj => h4 hfull (2 + j) (by omega)
    rw [hsecond]
  · rfl

/-- The bytes at the pc decode as the parcel or word they start. -/
theorem decode_of_decodeBytes {cfg : Config} {b0 b1 b2 b3 : Byte} {i : Instr} {rest : List Byte}
    (h : decodeBytes cfg [b0, b1, b2, b3] = .ok (i, rest)) :
    decode cfg (if isFull (parcel b0 b1) then .full (parcel b2 b3 ++ parcel b0 b1) else .half (parcel b0 b1)) = .ok i := by
  simp only [decodeBytes] at h
  cases hfull : isFull (parcel b0 b1) with
  | true =>
    rw [if_pos hfull] at h
    split at h
    · next hd => cases h; exact hd
    · cases h
  | false =>
    rw [hfull, if_neg Bool.false_ne_true] at h
    split at h
    · next hd => cases h; exact hd
    · cases h

theorem decodeEnc_begin {s : State} (h : s.TablesBuilt) (e : Enc) : s.begin.decodeEnc e = decode s.cfg e := by
  obtain ⟨hft, hct⟩ := h
  simp [State.decodeEnc, decode, hft, hct]

/-- Settles O7: fetch gives the parcel or word of the bytes at the pc, and decode its instruction. -/
theorem stepRunsDecoded : Obligations.StepRunsDecoded := by
  intro s i rest ht hp hdec hal
  have hd : decode s.cfg _ = .ok i := decode_of_decodeBytes hdec
  have h2 : Allowed s .fetch s.pc.toNat 2 := fun j hj => hal j (Nat.lt_of_lt_of_le hj (two_le_len _))
  have h4 (hfull : isFull (parcel (fetched s 0) (fetched s 1)) = true) : Allowed s .fetch s.pc.toNat 4 := by
    rw [if_pos hfull] at hd
    rwa [len_of_decode_full hd] at hal
  rw [← decodeEnc_begin ht] at hd
  rw [stepStart_eq, step]
  simp only [fetchEnc_begin hp h2 h4, hd]

end Sys2Proof.Machine
end

section
/-! SUPPORT. Where an instruction writes memory, in the terms of the statements, and who changes memory and the reservation
(O53). -/

namespace Sys2Proof.Machine

open Sys2Proof.Spec

/-! ## Effective addresses, in the terms of the statements -/

theorem creg_eq_reg3 (r : CReg) : creg r = reg3 r := by
  revert r
  decide

theorem imm12_eq_ofInt (w : Nat) (imm : BitVec 12) : imm12 w imm = BitVec.ofInt w imm.toInt := rfl

/-- A zero-extended field with k zero bits below it is 2^k times the field. -/
theorem setWidth_append_zero_eq_ofInt (w : Nat) {m : Nat} (u : BitVec m) (k : Nat) :
    (u ++ 0#k).setWidth w = BitVec.ofInt w (2 ^ k * u.toNat) := by
  have h : ((2 : Int) ^ k * u.toNat) = ((2 ^ k * u.toNat : Nat) : Int) := by push_cast; rfl
  rw [h, BitVec.ofInt_natCast]
  apply BitVec.eq_of_toNat_eq
  simp [BitVec.toNat_append, Nat.shiftLeft_eq, Nat.mul_comm]

theorem uimmW_eq_ofInt (w : Nat) (u : BitVec 5) : uimmW w u = BitVec.ofInt w (4 * u.toNat) :=
  setWidth_append_zero_eq_ofInt w u 2

theorem uimmD_eq_ofInt (w : Nat) (u : BitVec 5) : uimmD w u = BitVec.ofInt w (8 * u.toNat) :=
  setWidth_append_zero_eq_ofInt w u 3

theorem uimmWsp_eq_ofInt (w : Nat) (u : BitVec 6) : uimmWsp w u = BitVec.ofInt w (4 * u.toNat) :=
  setWidth_append_zero_eq_ofInt w u 2

theorem uimmDsp_eq_ofInt (w : Nat) (u : BitVec 6) : uimmDsp w u = BitVec.ofInt w (8 * u.toNat) :=
  setWidth_append_zero_eq_ofInt w u 3

theorem effAddr_toNat (s : State) (rs1 : Reg) (off : Int) :
    ((s.effAddr s.w rs1 (BitVec.ofInt s.w off)).toNat : Int) = wrap s (xu s rs1 + off) := by
  rw [State.effAddr, BitVec.toNat_add, Int.natCast_emod, Int.natCast_add, BitVec.toNat_ofInt,
    Int.toNat_of_nonneg (Int.emod_nonneg _ (Int.natCast_ne_zero.2 (Nat.ne_of_gt (Nat.two_pow_pos s.w)))), wrap, xu]
  push_cast
  rw [Int.add_emod_emod]

/-! ## Which instruction an effect belongs to -/

/-- A store is one of those the statements list, and it writes at the address they give. -/
theorem exists_isStore (s : State) {i : Instr} (h : kindOf i = .store) :
    ∃ o v, IsStore s o v ∧ o.instr = i ∧ ∃ a, storeSite s i = some (a, o.n) ∧ (a.toNat : Int) = o.addr s := by
  cases i with
  | sb rs1 rs2 imm => exact ⟨_, _, .sb _ _ _, rfl, _, rfl, effAddr_toNat _ _ _⟩
  | sh rs1 rs2 imm => exact ⟨_, _, .sh _ _ _, rfl, _, rfl, effAddr_toNat _ _ _⟩
  | sw rs1 rs2 imm => exact ⟨_, _, .sw _ _ _, rfl, _, rfl, effAddr_toNat _ _ _⟩
  | sd rs1 rs2 imm => exact ⟨_, _, .sd _ _ _, rfl, _, rfl, effAddr_toNat _ _ _⟩
  | fsw rs1 rs2 imm => exact ⟨_, _, .fsw _ _ _, rfl, _, rfl, effAddr_toNat _ _ _⟩
  | fsd rs1 rs2 imm => exact ⟨_, _, .fsd _ _ _, rfl, _, rfl, effAddr_toNat _ _ _⟩
  | cSw rs1 rs2 u => exact ⟨_, _, .cSw _ _ _, rfl, _, rfl, by rw [creg_eq_reg3, uimmW_eq_ofInt]; exact effAddr_toNat _ _ _⟩
  | cFsw rs1 rs2 u => exact ⟨_, _, .cFsw _ _ _, rfl, _, rfl, by rw [creg_eq_reg3, uimmW_eq_ofInt]; exact effAddr_toNat _ _ _⟩
  | cSd rs1 rs2 u => exact ⟨_, _, .cSd _ _ _, rfl, _, rfl, by rw [creg_eq_reg3, uimmD_eq_ofInt]; exact effAddr_toNat _ _ _⟩
  | cFsd rs1 rs2 u => exact ⟨_, _, .cFsd _ _ _, rfl, _, rfl, by rw [creg_eq_reg3, uimmD_eq_ofInt]; exact effAddr_toNat _ _ _⟩
  | cSwsp rs2 u => exact ⟨_, _, .cSwsp _ _, rfl, _, rfl, by rw [uimmWsp_eq_ofInt]; exact effAddr_toNat _ _ _⟩
  | cFswsp rs2 u => exact ⟨_, _, .cFswsp _ _, rfl, _, rfl, by rw [uimmWsp_eq_ofInt]; exact effAddr_toNat _ _ _⟩
  | cSdsp rs2 u => exact ⟨_, _, .cSdsp _ _, rfl, _, rfl, by rw [uimmDsp_eq_ofInt]; exact effAddr_toNat _ _ _⟩
  | cFsdsp rs2 u => exact ⟨_, _, .cFsdsp _ _, rfl, _, rfl, by rw [uimmDsp_eq_ofInt]; exact effAddr_toNat _ _ _⟩
  | _ => cases h

theorem exists_isLr {i : Instr} (h : kindOf i = .lr) : ∃ rd rs1 n, IsLr i rd rs1 n := by
  cases i with
  | lrW => exact ⟨_, _, _, .w _ _ _ _⟩
  | lrD => exact ⟨_, _, _, .d _ _ _ _⟩
  | _ => cases h

theorem exists_isSc {i : Instr} (h : kindOf i = .sc) : ∃ rd rs1 rs2 n, IsSc i rd rs1 rs2 n := by
  cases i with
  | scW => exact ⟨_, _, _, _, .w _ _ _ _ _⟩
  | scD => exact ⟨_, _, _, _, .d _ _ _ _ _⟩
  | _ => cases h

/-- An AMO is one of those the statements list, and it writes at the address in rs1. -/
theorem exists_isAmo (s : State) {i : Instr} (h : kindOf i = .amo) :
    ∃ rd rs1 rs2 n op, IsAmo i rd rs1 rs2 n op ∧ storeSite s i = some (s.rdX s.w rs1, n) := by
  cases i with
  | amoswapW => exact ⟨_, _, _, _, _, .swapW _ _ _ _ _, rfl⟩
  | amoaddW => exact ⟨_, _, _, _, _, .addW _ _ _ _ _, rfl⟩
  | amoxorW => exact ⟨_, _, _, _, _, .xorW _ _ _ _ _, rfl⟩
  | amoandW => exact ⟨_, _, _, _, _, .andW _ _ _ _ _, rfl⟩
  | amoorW => exact ⟨_, _, _, _, _, .orW _ _ _ _ _, rfl⟩
  | amominW => exact ⟨_, _, _, _, _, .minW _ _ _ _ _, rfl⟩
  | amomaxW => exact ⟨_, _, _, _, _, .maxW _ _ _ _ _, rfl⟩
  | amominuW => exact ⟨_, _, _, _, _, .minuW _ _ _ _ _, rfl⟩
  | amomaxuW => exact ⟨_, _, _, _, _, .maxuW _ _ _ _ _, rfl⟩
  | amoswapD => exact ⟨_, _, _, _, _, .swapD _ _ _ _ _, rfl⟩
  | amoaddD => exact ⟨_, _, _, _, _, .addD _ _ _ _ _, rfl⟩
  | amoxorD => exact ⟨_, _, _, _, _, .xorD _ _ _ _ _, rfl⟩
  | amoandD => exact ⟨_, _, _, _, _, .andD _ _ _ _ _, rfl⟩
  | amoorD => exact ⟨_, _, _, _, _, .orD _ _ _ _ _, rfl⟩
  | amominD => exact ⟨_, _, _, _, _, .minD _ _ _ _ _, rfl⟩
  | amomaxD => exact ⟨_, _, _, _, _, .maxD _ _ _ _ _, rfl⟩
  | amominuD => exact ⟨_, _, _, _, _, .minuD _ _ _ _ _, rfl⟩
  | amomaxuD => exact ⟨_, _, _, _, _, .maxuD _ _ _ _ _, rfl⟩
  | _ => cases h

/-! ## Memory and the reservation -/

theorem any_inResv_iff (s : State) (a : BitVec s.w) (n : Nat) :
    (byteAddrs a n).any s.inResv = true ↔ Touches s a.toNat n := by
  simp only [List.any_eq_true, mem_byteAddrs, State.inResv, decide_eq_true_iff, Touches, byteAddr_natCast]
  exact ⟨fun ⟨_, ⟨k, hk, rfl⟩, h⟩ => ⟨k, hk, h⟩, fun ⟨k, hk, h⟩ => ⟨_, ⟨k, hk, rfl⟩, h⟩⟩

/-- A write keeps a reservation exactly when it does not touch the reserved block. -/
theorem State.memWrite_resvValid_iff {s t : State} {a : BitVec s.w} {n : Nat} {v : BitVec (8 * n)}
    (h : s.memWrite a n v = .ok t) : t.resvValid = true ↔ s.resvValid = true ∧ ¬Touches s a.toNat n := by
  unfold State.memWrite at h
  split at h
  · cases h
  · cases h
    rw [State.breakResv_resvValid, State.writeLE_frame, Bool.and_eq_true, ← any_inResv_iff]
    simp [State.inResv]

/-- Memory is kept by all but stores, SC and AMO. -/
theorem Effect.mem_cases {i : Instr} {s t : State} (h : Effect i s t) :
    t.mem = s.mem ∨ kindOf i = .store ∨ kindOf i = .sc ∨ kindOf i = .amo := by
  cases h
  case store hk _ _ _ => exact .inr (.inl hk)
  case scWrites hk _ _ _ => exact .inr (.inr (.inl hk))
  case amo hk _ _ => exact .inr (.inr (.inr hk))
  all_goals left; simp

/-- What an instruction does to the reservation: LR sets it; the others keep its address, and nothing changes, SC drops it,
or a store or AMO drops it exactly when its bytes touch the block. -/
theorem Effect.resv_cases {i : Instr} {s t : State} (h : Effect i s t) :
    kindOf i = .lr ∨ (t.resvAddr = s.resvAddr ∧
      (t.resvValid = s.resvValid ∨ (kindOf i = .sc ∧ t.resvValid = false) ∨
        ((kindOf i = .store ∨ kindOf i = .amo) ∧ ∃ a n, storeSite s i = some (a, n) ∧
          (t.resvValid = true ↔ s.resvValid = true ∧ ¬Touches s a.toNat n)))) := by
  cases h
  case lr hk => exact .inl hk
  case store a n _ _ hk hs _ hm =>
    exact .inr ⟨by simp [State.memWrite_fields hm],
      .inr (.inr ⟨.inl hk, a, n, hs, by simpa using State.memWrite_resvValid_iff hm⟩)⟩
  case amo a _ n _ _ hk hs hm =>
    exact .inr ⟨by simp [State.memWrite_fields hm],
      .inr (.inr ⟨.inr hk, a, n, hs, by simpa using State.memWrite_resvValid_iff hm⟩)⟩
  case scWrites hk _ _ hm => exact .inr ⟨by simp [State.memWrite_fields hm], .inr (.inl ⟨hk, by simp⟩)⟩
  case scFails hk => exact .inr ⟨by simp, .inr (.inl ⟨hk, by simp⟩)⟩
  all_goals exact .inr ⟨by simp, .inl (by simp)⟩

/-- Only LR moves a reservation or makes one. -/
theorem Effect.resv_kept_or_dropped {i : Instr} {s t : State} (h : Effect i s t) (hlr : kindOf i ≠ .lr) :
    t.resvAddr = s.resvAddr ∧ (t.resvValid = true → s.resvValid = true) := by
  obtain hk | ⟨ha, hv | ⟨-, hv⟩ | ⟨-, a, n, -, hv⟩⟩ := h.resv_cases
  · exact absurd hk hlr
  · exact ⟨ha, fun ht => hv ▸ ht⟩
  · exact ⟨ha, fun ht => absurd (hv.symm.trans ht) Bool.false_ne_true⟩
  · exact ⟨ha, fun ht => (hv.1 ht).1⟩

/-- Where neither LR nor SC drops a reservation, a store or AMO does whose bytes touch the block. -/
theorem Effect.touches_of_dropped {i : Instr} {s t : State} (h : Effect i s t) (hlr : kindOf i ≠ .lr)
    (hsc : kindOf i ≠ .sc) (hs : s.resvValid = true) (ht : t.resvValid = false) :
    (kindOf i = .store ∨ kindOf i = .amo) ∧ ∃ a n, storeSite s i = some (a, n) ∧ Touches s a.toNat n := by
  obtain hk | ⟨-, hv | ⟨hk, -⟩ | ⟨hk, a, n, hsite, hv⟩⟩ := h.resv_cases
  · exact absurd hk hlr
  · rw [hs, ht] at hv; cases hv
  · exact absurd hk hsc
  · refine ⟨hk, a, n, hsite, Classical.not_not.1 fun hno => ?_⟩
    exact absurd (ht.symm.trans (hv.2 ⟨hs, hno⟩)) Bool.false_ne_true

theorem not_lr_of_forall {i : Instr} (h : ∀ rd rs1 n, ¬IsLr i rd rs1 n) : kindOf i ≠ .lr := fun hk =>
  let ⟨_, _, _, hi⟩ := exists_isLr hk
  h _ _ _ hi

theorem not_sc_of_forall {i : Instr} (h : ∀ rd rs1 rs2 n, ¬IsSc i rd rs1 rs2 n) : kindOf i ≠ .sc := fun hk =>
  let ⟨_, _, _, _, hi⟩ := exists_isSc hk
  h _ _ _ _ hi

/-- Settles O53, case by case of what an effect does to memory and to the reservation. -/
theorem memoryAndReservationChanges : Obligations.MemoryAndReservationChanges := by
  intro i s t h
  have he := effect_of_exec i s t h
  refine ⟨fun hstore hsc hamo => ?_, fun hlr => he.resv_kept_or_dropped (not_lr_of_forall hlr),
    fun hlr hsc hs ht => ?_⟩
  · obtain hm | hk | hk | hk := he.mem_cases
    · exact fun a => by rw [hm]
    · obtain ⟨o, v, ho, hi, -⟩ := exists_isStore s hk
      exact absurd hi (hstore o v ho)
    · exact absurd hk (not_sc_of_forall hsc)
    · obtain ⟨rd, rs1, rs2, n, op, ha, -⟩ := exists_isAmo s hk
      exact absurd ha (hamo rd rs1 rs2 n op)
  · obtain ⟨hk | hk, a, n, hsite, htouch⟩ :=
      he.touches_of_dropped (not_lr_of_forall hlr) (not_sc_of_forall hsc) hs ht
    · obtain ⟨o, v, ho, hi, a', hsite', haddr⟩ := exists_isStore s hk
      cases hsite.symm.trans hsite'
      exact .inl ⟨o, v, ho, hi, haddr ▸ htouch⟩
    · obtain ⟨rd, rs1, rs2, n', op, hi, hsite'⟩ := exists_isAmo s hk
      cases hsite.symm.trans hsite'
      exact .inr ⟨rd, rs1, rs2, n, op, hi, htouch⟩

end Sys2Proof.Machine
end

section
/-! SUPPORT. The fields of the encoding formats: what the decoder reads from each is what the encoder put there. -/

namespace Sys2Proof.Machine

/-! ## Fields of a concatenation

The library's lemmas, in a form that also matches where the width is a literal. -/

theorem extract_high {v w start len : Nat} (x : BitVec v) (y : BitVec w) (h : w ≤ start) :
    (no_index (x ++ y)).extractLsb' start len = x.extractLsb' (start - w) len :=
  BitVec.extractLsb'_append_eq_of_le h

theorem extract_low {v w start len : Nat} (x : BitVec v) (y : BitVec w) (h : start + len ≤ w) :
    (no_index (x ++ y)).extractLsb' start len = y.extractLsb' start len :=
  BitVec.extractLsb'_append_eq_of_add_le h

theorem extract_join {n s₁ s₂ l₁ l₂ : Nat} (x : BitVec n) (h : s₂ = s₁ + l₁) :
    no_index (x.extractLsb' s₂ l₂ ++ x.extractLsb' s₁ l₁) = x.extractLsb' s₁ (l₂ + l₁) :=
  BitVec.extractLsb'_append_extractLsb'_eq_extractLsb' h

theorem bit_high {v w k : Nat} (x : BitVec v) (y : BitVec w) (h : w ≤ k) :
    (no_index (x ++ y)).getLsbD k = x.getLsbD (k - w) := by
  rw [BitVec.getLsbD_append, if_neg (Nat.not_lt.2 h)]

theorem bit_low {v w k : Nat} (x : BitVec v) (y : BitVec w) (h : k < w) :
    (no_index (x ++ y)).getLsbD k = y.getLsbD k := by
  rw [BitVec.getLsbD_append, if_pos h]

/-! ## Fields of the 32-bit formats -/

theorem id32_encR (f7 : BitVec 7) (rs2 rs1 : Reg) (f3 : BitVec 3) (rd : Reg) (op : BitVec 7) :
    id32 (encR f7 rs2 rs1 f3 rd op) = f7.extractLsb' 0 1 ++ f3 ++ op.extractLsb' 2 5 := by
  simp [id32, encR, extract_high, extract_low]

theorem fields_encR (f7 : BitVec 7) (rs2 rs1 : Reg) (f3 : BitVec 3) (rd : Reg) (op : BitVec 7) :
    fF7 (encR f7 rs2 rs1 f3 rd op) = f7 ∧ fRs2 (encR f7 rs2 rs1 f3 rd op) = rs2 ∧
    fRs1 (encR f7 rs2 rs1 f3 rd op) = rs1 ∧ fF3 (encR f7 rs2 rs1 f3 rd op) = f3 ∧
    fRd (encR f7 rs2 rs1 f3 rd op) = rd ∧ fF5 (encR f7 rs2 rs1 f3 rd op) = f7.extractLsb' 2 5 ∧
    fFmt (encR f7 rs2 rs1 f3 rd op) = f7.extractLsb' 0 2 := by
  simp [fF7, fRs2, fRs1, fF3, fRd, fF5, fFmt, encR, extract_high, extract_low]

theorem id32_encR4 (rs3 : Reg) (fmt : BitVec 2) (rs2 rs1 : Reg) (rm : BitVec 3) (rd : Reg) (op : BitVec 7) :
    id32 (encR4 rs3 fmt rs2 rs1 rm rd op) = fmt.extractLsb' 0 1 ++ rm ++ op.extractLsb' 2 5 := by
  simp [id32, encR4, extract_high, extract_low]

theorem fields_encR4 (rs3 : Reg) (fmt : BitVec 2) (rs2 rs1 : Reg) (rm : BitVec 3) (rd : Reg) (op : BitVec 7) :
    fRs3 (encR4 rs3 fmt rs2 rs1 rm rd op) = rs3 ∧ fFmt (encR4 rs3 fmt rs2 rs1 rm rd op) = fmt ∧
    fRs2 (encR4 rs3 fmt rs2 rs1 rm rd op) = rs2 ∧ fRs1 (encR4 rs3 fmt rs2 rs1 rm rd op) = rs1 ∧
    fF3 (encR4 rs3 fmt rs2 rs1 rm rd op) = rm ∧ fRd (encR4 rs3 fmt rs2 rs1 rm rd op) = rd := by
  simp [fRs3, fFmt, fRs2, fRs1, fF3, fRd, encR4, extract_high, extract_low]

theorem id32_encAmo (f5 : BitVec 5) (aq rl : Bool) (rs2 rs1 : Reg) (f3 : BitVec 3) (rd : Reg) (op : BitVec 7) :
    id32 (encAmo f5 aq rl rs2 rs1 f3 rd op) = BitVec.ofBool rl ++ f3 ++ op.extractLsb' 2 5 := by
  simp [id32, encAmo, extract_high, extract_low]

theorem fields_encAmo (f5 : BitVec 5) (aq rl : Bool) (rs2 rs1 : Reg) (f3 : BitVec 3) (rd : Reg) (op : BitVec 7) :
    fF5 (encAmo f5 aq rl rs2 rs1 f3 rd op) = f5 ∧ fAq (encAmo f5 aq rl rs2 rs1 f3 rd op) = aq ∧
    fRl (encAmo f5 aq rl rs2 rs1 f3 rd op) = rl ∧ fRs2 (encAmo f5 aq rl rs2 rs1 f3 rd op) = rs2 ∧
    fRs1 (encAmo f5 aq rl rs2 rs1 f3 rd op) = rs1 ∧ fRd (encAmo f5 aq rl rs2 rs1 f3 rd op) = rd := by
  simp [fF5, fAq, fRl, fRs2, fRs1, fRd, encAmo, extract_high, extract_low, bit_high, bit_low, -BitVec.getLsbD_eq_getElem]

theorem id32_encShift (f6 shamt : BitVec 6) (rs1 : Reg) (f3 : BitVec 3) (rd : Reg) (op : BitVec 7) :
    id32 (encShift f6 shamt rs1 f3 rd op) = shamt.extractLsb' 5 1 ++ f3 ++ op.extractLsb' 2 5 := by
  simp [id32, encShift, extract_high, extract_low]

theorem fields_encShift (f6 shamt : BitVec 6) (rs1 : Reg) (f3 : BitVec 3) (rd : Reg) (op : BitVec 7) :
    fF6 (encShift f6 shamt rs1 f3 rd op) = f6 ∧ fShamt6 (encShift f6 shamt rs1 f3 rd op) = shamt ∧
    (encShift f6 shamt rs1 f3 rd op).getLsbD 25 = shamt.getLsbD 5 ∧
    fRs1 (encShift f6 shamt rs1 f3 rd op) = rs1 ∧ fRd (encShift f6 shamt rs1 f3 rd op) = rd := by
  simp [fF6, fShamt6, fRs1, fRd, encShift, extract_high, extract_low, bit_high, bit_low, -BitVec.getLsbD_eq_getElem]

/-- The fields of FENCE are those of its I-immediate. -/
theorem fence_fields_encI (fm pred succ : BitVec 4) (rs1 : Reg) (f3 : BitVec 3) (rd : Reg) (op : BitVec 7) :
    (encI (fm ++ pred ++ succ) rs1 f3 rd op).extractLsb' 28 4 = fm ∧
    (encI (fm ++ pred ++ succ) rs1 f3 rd op).extractLsb' 24 4 = pred ∧
    (encI (fm ++ pred ++ succ) rs1 f3 rd op).extractLsb' 20 4 = succ := by
  simp [encI, extract_high, extract_low]

theorem id32_encS (imm : BitVec 12) (rs2 rs1 : Reg) (f3 : BitVec 3) (op : BitVec 7) :
    id32 (encS imm rs2 rs1 f3 op) = (imm.extractLsb' 5 7).extractLsb' 0 1 ++ f3 ++ op.extractLsb' 2 5 := by
  simp [id32, encS, extract_high, extract_low]

theorem fields_encS (imm : BitVec 12) (rs2 rs1 : Reg) (f3 : BitVec 3) (op : BitVec 7) :
    fRs2 (encS imm rs2 rs1 f3 op) = rs2 ∧ fRs1 (encS imm rs2 rs1 f3 op) = rs1 ∧
    fImmS (encS imm rs2 rs1 f3 op) = imm := by
  simp [fRs2, fRs1, fImmS, encS, extract_high, extract_low, extract_join]

theorem id32_encB (off : BitVec 12) (rs2 rs1 : Reg) (f3 : BitVec 3) (op : BitVec 7) :
    id32 (encB off rs2 rs1 f3 op) = (off.extractLsb' 4 6).extractLsb' 0 1 ++ f3 ++ op.extractLsb' 2 5 := by
  simp [id32, encB, extract_high, extract_low]

theorem fields_encB (off : BitVec 12) (rs2 rs1 : Reg) (f3 : BitVec 3) (op : BitVec 7) :
    fRs2 (encB off rs2 rs1 f3 op) = rs2 ∧ fRs1 (encB off rs2 rs1 f3 op) = rs1 ∧
    fOffB (encB off rs2 rs1 f3 op) = off := by
  simp [fRs2, fRs1, fOffB, encB, extract_high, extract_low, extract_join]

theorem id32_encU (imm : BitVec 20) (rd : Reg) (op : BitVec 7) :
    id32 (encU imm rd op) = imm.extractLsb' 13 1 ++ imm.extractLsb' 0 3 ++ op.extractLsb' 2 5 := by
  simp [id32, encU, extract_high, extract_low]

theorem fields_encU (imm : BitVec 20) (rd : Reg) (op : BitVec 7) :
    fImmU (encU imm rd op) = imm ∧ fRd (encU imm rd op) = rd := by
  simp [fImmU, fRd, encU, extract_high, extract_low]

theorem id32_encJ (off : BitVec 20) (rd : Reg) (op : BitVec 7) :
    id32 (encJ off rd op) = off.extractLsb' 4 1 ++ (off.extractLsb' 11 8).extractLsb' 0 3 ++ op.extractLsb' 2 5 := by
  simp [id32, encJ, extract_high, extract_low]

theorem fields_encJ (off : BitVec 20) (rd : Reg) (op : BitVec 7) :
    fOffJ (encJ off rd op) = off ∧ fRd (encJ off rd op) = rd := by
  simp [fOffJ, fRd, encJ, extract_high, extract_low, extract_join]

/-! ## Fields of the 16-bit formats -/

theorem fields_encCIW (imm : BitVec 8) (rd : CReg) :
    id16 (encCIW imm rd) = 0b000#3 ++ 0b00#2 ∧ cImm4spn (encCIW imm rd) = imm ∧ cRd' (encCIW imm rd) = rd := by
  simp [id16, cImm4spn, cRd', encCIW, extract_high, extract_low, extract_join]

theorem fields_encCW (f3 : BitVec 3) (u : BitVec 5) (rs1 r2 : CReg) (op : BitVec 2) :
    id16 (encCW f3 u rs1 r2 op) = f3 ++ op ∧ cOffW (encCW f3 u rs1 r2 op) = u ∧
    cRs1' (encCW f3 u rs1 r2 op) = rs1 ∧ cRd' (encCW f3 u rs1 r2 op) = r2 := by
  simp [id16, cOffW, cRs1', cRd', encCW, extract_high, extract_low, extract_join]

theorem fields_encCD (f3 : BitVec 3) (u : BitVec 5) (rs1 r2 : CReg) (op : BitVec 2) :
    id16 (encCD f3 u rs1 r2 op) = f3 ++ op ∧ cOffD (encCD f3 u rs1 r2 op) = u ∧
    cRs1' (encCD f3 u rs1 r2 op) = rs1 ∧ cRd' (encCD f3 u rs1 r2 op) = r2 := by
  simp [id16, cOffD, cRs1', cRd', encCD, extract_high, extract_low, extract_join]

theorem fields_encCI (f3 : BitVec 3) (imm : BitVec 6) (rd : Reg) (op : BitVec 2) :
    id16 (encCI f3 imm rd op) = f3 ++ op ∧ cImm6 (encCI f3 imm rd op) = imm ∧ cRd (encCI f3 imm rd op) = rd ∧
    (encCI f3 imm rd op).getLsbD 12 = imm.getLsbD 5 := by
  simp [id16, cImm6, cRd, encCI, extract_high, extract_low, extract_join, bit_high, bit_low, -BitVec.getLsbD_eq_getElem]

theorem fields_encCAddi16sp (imm : BitVec 6) :
    id16 (encCAddi16sp imm) = 0b011#3 ++ 0b01#2 ∧ cImm16sp (encCAddi16sp imm) = imm ∧ cRd (encCAddi16sp imm) = 2 := by
  simp [id16, cImm16sp, cRd, encCAddi16sp, extract_high, extract_low, extract_join]

theorem fields_encCBAlu (f3 : BitVec 3) (f2 : BitVec 2) (imm : BitVec 6) (rd : CReg) (op : BitVec 2) :
    id16 (encCBAlu f3 f2 imm rd op) = f3 ++ op ∧ (encCBAlu f3 f2 imm rd op).extractLsb' 10 2 = f2 ∧
    cImm6 (encCBAlu f3 f2 imm rd op) = imm ∧ cRs1' (encCBAlu f3 f2 imm rd op) = rd ∧
    (encCBAlu f3 f2 imm rd op).getLsbD 12 = imm.getLsbD 5 := by
  simp [id16, cImm6, cRs1', encCBAlu, extract_high, extract_low, extract_join, bit_high, bit_low,
    -BitVec.getLsbD_eq_getElem]

theorem fields_encCA (f6 : BitVec 6) (rd : CReg) (f2 : BitVec 2) (rs2 : CReg) (op : BitVec 2) :
    id16 (encCA f6 rd f2 rs2 op) = f6.extractLsb' 3 3 ++ op ∧
    (encCA f6 rd f2 rs2 op).extractLsb' 10 2 = f6.extractLsb' 0 2 ∧
    (encCA f6 rd f2 rs2 op).extractLsb' 12 1 = f6.extractLsb' 2 1 ∧
    (encCA f6 rd f2 rs2 op).extractLsb' 5 2 = f2 ∧
    cRs1' (encCA f6 rd f2 rs2 op) = rd ∧ cRd' (encCA f6 rd f2 rs2 op) = rs2 := by
  simp [id16, cRs1', cRd', encCA, extract_high, extract_low]

theorem fields_encCJ (f3 : BitVec 3) (off : BitVec 11) (op : BitVec 2) :
    id16 (encCJ f3 off op) = f3 ++ op ∧ cOffJ (encCJ f3 off op) = off := by
  simp [id16, cOffJ, encCJ, extract_high, extract_low, extract_join]

theorem fields_encCB (f3 : BitVec 3) (off : BitVec 8) (rs1 : CReg) (op : BitVec 2) :
    id16 (encCB f3 off rs1 op) = f3 ++ op ∧ cOffB (encCB f3 off rs1 op) = off ∧ cRs1' (encCB f3 off rs1 op) = rs1 := by
  simp [id16, cOffB, cRs1', encCB, extract_high, extract_low, extract_join]

theorem fields_encCLwsp (f3 : BitVec 3) (u : BitVec 6) (rd : Reg) (op : BitVec 2) :
    id16 (encCLwsp f3 u rd op) = f3 ++ op ∧ cOffLwsp (encCLwsp f3 u rd op) = u ∧ cRd (encCLwsp f3 u rd op) = rd := by
  simp [id16, cOffLwsp, cRd, encCLwsp, extract_high, extract_low, extract_join]

theorem fields_encCLdsp (f3 : BitVec 3) (u : BitVec 6) (rd : Reg) (op : BitVec 2) :
    id16 (encCLdsp f3 u rd op) = f3 ++ op ∧ cOffLdsp (encCLdsp f3 u rd op) = u ∧ cRd (encCLdsp f3 u rd op) = rd := by
  simp [id16, cOffLdsp, cRd, encCLdsp, extract_high, extract_low, extract_join]

theorem fields_encCSwsp (f3 : BitVec 3) (u : BitVec 6) (rs2 : Reg) (op : BitVec 2) :
    id16 (encCSwsp f3 u rs2 op) = f3 ++ op ∧ cOffSwsp (encCSwsp f3 u rs2 op) = u ∧
    cRs2 (encCSwsp f3 u rs2 op) = rs2 := by
  simp [id16, cOffSwsp, cRs2, encCSwsp, extract_high, extract_low, extract_join]

theorem fields_encCSdsp (f3 : BitVec 3) (u : BitVec 6) (rs2 : Reg) (op : BitVec 2) :
    id16 (encCSdsp f3 u rs2 op) = f3 ++ op ∧ cOffSdsp (encCSdsp f3 u rs2 op) = u ∧
    cRs2 (encCSdsp f3 u rs2 op) = rs2 := by
  simp [id16, cOffSdsp, cRs2, encCSdsp, extract_high, extract_low, extract_join]

theorem fields_encCR (f4 : BitVec 4) (rd rs2 : Reg) (op : BitVec 2) :
    id16 (encCR f4 rd rs2 op) = f4.extractLsb' 1 3 ++ op ∧ cRd (encCR f4 rd rs2 op) = rd ∧
    cRs2 (encCR f4 rd rs2 op) = rs2 ∧ (encCR f4 rd rs2 op).getLsbD 12 = f4.getLsbD 0 := by
  simp [id16, cRd, cRs2, encCR, extract_high, extract_low, bit_high, -BitVec.getLsbD_eq_getElem]

end Sys2Proof.Machine
end

section
/-! SUPPORT. The decoder inverts the encoder, by the slot of each instruction and its handler's answer; and an instruction
decodes from its bytes (O4). -/

namespace Sys2Proof.Machine

open Sys2Proof.Spec Sys2Proof.Laws

/-! ## Slots -/

/-- The pattern covers the identifier with this bit 25, funct3 and opcode. The opcode is compared first, so that the calls
on one opcode are found with the other two fields unknown. -/
def hits (p : FullPattern) (b25 : BitVec 1) (f3 : BitVec 3) (op : BitVec 5) : Bool :=
  match p with
  | .slot b25' f3' op' => op == op' && f3 == f3' && b25 == b25'
  | .pair f3' op' => op == op' && f3 == f3'
  | .opcode op' => op == op'

/-- The installer calls that write one slot of FTABLE. -/
def callsAt (b25 : BitVec 1) (f3 : BitVec 3) (op : BitVec 5) : List FullInstall :=
  installsFull.filter fun c => hits c.pattern b25 f3 op

/-- The installer calls that write one slot of CTABLE. -/
def callsHalf (slot : BitVec 5) : List HalfInstall := installsHalf.filter fun c => c.slot == slot

theorem append_eq_append_iff {n m : Nat} (a c : BitVec n) (b d : BitVec m) : a ++ b = c ++ d ↔ a = c ∧ b = d := by
  refine ⟨fun h => ⟨?_, ?_⟩, fun ⟨ha, hb⟩ => ha ▸ hb ▸ rfl⟩
  · simpa [extract_high] using congrArg (BitVec.extractLsb' m n) h
  · simpa [extract_low] using congrArg (BitVec.extractLsb' 0 m) h

theorem covers_append (p : FullPattern) (b25 : BitVec 1) (f3 : BitVec 3) (op : BitVec 5) :
    p.covers (b25 ++ f3 ++ op) = hits p b25 f3 op := by
  rw [Bool.eq_iff_iff]
  cases p with
  | slot b25' f3' op' =>
    have h : b25 ++ f3 ++ op = b25' ++ f3' ++ op' ↔ (b25 = b25' ∧ f3 = f3') ∧ op = op' :=
      (append_eq_append_iff _ _ _ _).trans (and_congr_left' (append_eq_append_iff _ _ _ _))
    simp only [FullPattern.covers, hits, beq_iff_eq, Bool.and_eq_true]
    exact h.trans ⟨fun ⟨⟨hb, hf⟩, ho⟩ => ⟨⟨ho, hf⟩, hb⟩, fun ⟨⟨ho, hf⟩, hb⟩ => ⟨⟨hb, hf⟩, ho⟩⟩
  | pair f3' op' => simp [FullPattern.covers, hits, extract_high, extract_low, and_comm (a := f3 = f3')]
  | opcode op' => simp [FullPattern.covers, hits, extract_low]

theorem slotFull_of_callsAt {cfg : Config} {b25 : BitVec 1} {f3 : BitVec 3} {op : BitVec 5} {c : FullInstall}
    (hc : callsAt b25 f3 op = [c]) (hon : c.on cfg = true) : slotFull cfg (b25 ++ f3 ++ op) = c.handler := by
  rw [callsAt] at hc
  have hcovers : (installsFull.filter fun i => i.pattern.covers (b25 ++ f3 ++ op)) = [c] := by
    simpa only [covers_append] using hc
  rw [slotFull_eq, hcovers]
  simp [hon]

theorem slotHalf_of_callsHalf {cfg : Config} {slot : BitVec 5} {c : HalfInstall}
    (hc : (callsHalf slot).filter (HalfInstall.on cfg) = [c]) : slotHalf cfg slot = c.handler := by
  have hfold : slotHalf cfg slot =
      ((callsHalf slot).filter (HalfInstall.on cfg)).foldl (fun _ i => i.handler) .illegal := by
    rw [callsHalf, List.filter_filter, List.foldl_filter]
    rfl
  rw [hfold, hc]
  rfl

/-- CTABLE holds at each identifier what the installers leave there. -/
theorem decode_half (cfg : Config) (h : BitVec 16) : decode cfg (.half h) = (slotHalf cfg (id16 h)).run cfg h := by
  have hslot : (buildHalf cfg).getD (id16 h).toNat .illegal = slotHalf cfg (id16 h) := by
    rw [buildHalf, tableFrom_getD _ _ _ _ _ (id16 h).isLt, Nat.zero_add, BitVec.ofNat_toNat, BitVec.setWidth_eq]
  rw [← hslot]
  rfl

/-! ## An enabled instruction's installer call is made -/

theorem enabled_iff (cfg : Config) (i : Instr) : i.enabled cfg = true ↔
    (i.row.xlen = none ∨ i.row.xlen = some cfg.xlen) ∧ cfg.extOn i.row.ext = true ∧ i.shamtOk cfg.xlen = true := by
  simp [Instr.enabled, and_assoc]

/-- A call with these conditions asks for no more than the row of the instruction does. -/
def within (x : Option XLen) (e : Ext) (i : Instr) : Bool := (x == none || x == i.row.xlen) && e == i.row.ext

/-- The module of an enabled instruction makes every call that asks for no more than the instruction's row. -/
theorem on_of_enabled {cfg : Config} {i : Instr} (he : i.enabled cfg = true) {x : Option XLen} {e : Ext}
    (hc : within x e i = true) :
    ((x == none || x == some cfg.xlen) && cfg.extOn e) = true := by
  obtain ⟨hx, hext, -⟩ := (enabled_iff cfg i).1 he
  simp only [within, Bool.and_eq_true, Bool.or_eq_true, beq_iff_eq] at hc ⊢
  obtain ⟨hxc, rfl⟩ := hc
  refine ⟨hxc.elim .inl fun h => ?_, hext⟩
  rwa [h]

theorem xlen_of_enabled {cfg : Config} {i : Instr} (he : i.enabled cfg = true) {x : XLen} (hi : i.row.xlen = some x) :
    cfg.xlen = x := by
  obtain ⟨hx, -, -⟩ := (enabled_iff cfg i).1 he
  rw [hi] at hx
  obtain hx | hx := hx
  · cases hx
  · cases hx; rfl

/-- A call for the other XLEN is not made. -/
theorem off_of_enabled {cfg : Config} {i : Instr} (he : i.enabled cfg = true) {x y : XLen} {e : Ext}
    (hi : i.row.xlen = some x) (hxy : x ≠ y) : ((some y == none || some y == some cfg.xlen) && cfg.extOn e) = false := by
  simp [xlen_of_enabled he hi, hxy.symm]

theorem fOn_of_dOn {cfg : Config} (h : cfg.dOn = true) : cfg.fOn = true := by
  rw [Config.dOn, Bool.and_eq_true] at h
  exact h.1

theorem filter_on {cfg : Config} {i : Instr} (he : i.enabled cfg = true) {c : HalfInstall}
    (hc : within c.xlen c.ext i = true) :
    [c].filter (HalfInstall.on cfg) = [c] :=
  List.filter_cons_of_pos (on_of_enabled he hc)

/-- Of the two calls on a slot, one for each XLEN, the instruction's own is made. -/
theorem filter_on_rv32 {cfg : Config} {i : Instr} (he : i.enabled cfg = true) (hx : i.row.xlen = some .rv32)
    {c : HalfInstall} {e : Ext} {slot : BitVec 5} {k : HalfHandler}
    (hc : within c.xlen c.ext i = true) :
    [c, ⟨e, some .rv64, slot, k⟩].filter (HalfInstall.on cfg) = [c] := by
  have hon : c.on cfg = true := on_of_enabled he hc
  have hoff : HalfInstall.on cfg ⟨e, some .rv64, slot, k⟩ = false := off_of_enabled he hx (by decide)
  simp [hon, hoff]

theorem filter_on_rv64 {cfg : Config} {i : Instr} (he : i.enabled cfg = true) (hx : i.row.xlen = some .rv64)
    {c : HalfInstall} {e : Ext} {slot : BitVec 5} {k : HalfHandler}
    (hc : within c.xlen c.ext i = true) :
    [⟨e, some .rv32, slot, k⟩, c].filter (HalfInstall.on cfg) = [c] := by
  have hon : c.on cfg = true := on_of_enabled he hc
  have hoff : HalfInstall.on cfg ⟨e, some .rv32, slot, k⟩ = false := off_of_enabled he hx (by decide)
  simp [hon, hoff]

/-! ## Slots and handlers that need a word of their own -/

/-- The slots of the opcodes MADD to OP-FP, each with its module and handler: funct3 is a rounding mode there. -/
def fpSlots : List (Ext × BitVec 1 × BitVec 5 × FullHandler) :=
  [(.f, 0, 0b10000, .fmaddS), (.f, 0, 0b10001, .fmsubS), (.f, 0, 0b10010, .fnmsubS), (.f, 0, 0b10011, .fnmaddS),
   (.f, 0, 0b10100, .opFpS), (.d, 1, 0b10000, .fmaddD), (.d, 1, 0b10001, .fmsubD), (.d, 1, 0b10010, .fnmsubD),
   (.d, 1, 0b10011, .fnmaddD), (.d, 1, 0b10100, .opFpD)]

theorem callsAt_fp : ∀ p ∈ fpSlots, ∀ rm,
    callsAt p.2.1 rm p.2.2.1 = [⟨p.1, none, .slot p.2.1 rm p.2.2.1, p.2.2.2⟩] := by
  decide

theorem callsAt_opFpS (rm : BitVec 3) : callsAt 0 rm 0b10100 = [⟨.f, none, .slot 0 rm 0b10100, .opFpS⟩] :=
  callsAt_fp (.f, 0, 0b10100, .opFpS) (by decide) rm

theorem callsAt_opFpD (rm : BitVec 3) : callsAt 1 rm 0b10100 = [⟨.d, none, .slot 1 rm 0b10100, .opFpD⟩] :=
  callsAt_fp (.d, 1, 0b10100, .opFpD) (by decide) rm

theorem shiftOk_encShift (cfg : Config) (f6' f6 shamt : BitVec 6) (rs1 : Reg) (f3 : BitVec 3) (rd : Reg) (op : BitVec 7) :
    shiftOk cfg f6' (encShift f6 shamt rs1 f3 rd op) = (f6 == f6' && (cfg.xlen == .rv64 || !shamt.getLsbD 5)) := by
  obtain ⟨hf6, -, hbit, -, -⟩ := fields_encShift f6 shamt rs1 f3 rd op
  rw [shiftOk, hf6, hbit]

theorem decodePriv_sfenceVma (rs1 rs2 : Reg) :
    decodePriv (encR 0b0001001#7 rs2 rs1 0b000#3 0#5 0b1110011#7) = .ok (.sfenceVma rs1 rs2) := by
  have hne {v : BitVec 32} (hv : fF7 v ≠ 0b0001001) : encR 0b0001001#7 rs2 rs1 0b000#3 0#5 0b1110011#7 ≠ v := by
    rintro rfl
    exact hv (fields_encR _ _ _ _ _ _).1
  rw [decodePriv, if_neg (hne (by decide)), if_neg (hne (by decide)), if_neg (hne (by decide)), if_neg (hne (by decide)),
    if_neg (hne (by decide))]
  simp [fields_encR, accept]

/-! ## Decoding an encoding -/

theorem decode_of_callsAt {cfg : Config} {i : Instr} {w : BitVec 32} {b25 : BitVec 1} {f3 : BitVec 3} {op : BitVec 5}
    {c : FullInstall} (henc : encode i = .full w) (hid : id32 w = b25 ++ f3 ++ op) (hc : callsAt b25 f3 op = [c])
    (hon : c.on cfg = true) (hrun : c.handler.run cfg w = .ok i) : decode cfg (encode i) = .ok i := by
  rw [henc, decode_full, hid, slotFull_of_callsAt hc hon, hrun]

theorem decode_of_callsHalf {cfg : Config} {i : Instr} {h : BitVec 16} {slot : BitVec 5} {c : HalfInstall}
    (henc : encode i = .half h) (hid : id16 h = slot) (hc : (callsHalf slot).filter (HalfInstall.on cfg) = [c])
    (hrun : c.handler.run cfg h = .ok i) : decode cfg (encode i) = .ok i := by
  rw [henc, decode_half, hid, slotHalf_of_callsHalf hc, hrun]

/-- A fused multiply-add, by its slot among those of the FP opcodes. -/
theorem decode_encR4 {cfg : Config} {i : Instr} {k : FullHandler} {rs3 rs2 rs1 rd : Reg} {fmt : BitVec 2}
    {rm : BitVec 3} {op : BitVec 7} (henc : encode i = .full (encR4 rs3 fmt rs2 rs1 rm rd op))
    (he : i.enabled cfg = true) (hp : (i.row.ext, fmt.extractLsb' 0 1, op.extractLsb' 2 5, k) ∈ fpSlots)
    (hrun : k.run cfg (encR4 rs3 fmt rs2 rs1 rm rd op) = .ok i) : decode cfg (encode i) = .ok i :=
  decode_of_callsAt henc (id32_encR4 _ _ _ _ _ _ _) (callsAt_fp _ hp rm) (on_of_enabled he (by simp [within])) hrun

/-- The 32-bit instructions, format by format. -/
theorem decode_encode_full {cfg : Config} {i : Instr} (he : i.enabled cfg = true) (hf : extIsC i.row.ext = false) :
    decode cfg (encode i) = .ok i := by
  cases i
  case lui | auipc =>
    exact decode_of_callsAt rfl (id32_encU _ _ _) rfl (on_of_enabled he rfl) (by simp [FullHandler.run, fields_encU])
  case jal =>
    exact decode_of_callsAt rfl (id32_encJ _ _ _) rfl (on_of_enabled he rfl) (by simp [FullHandler.run, fields_encJ])
  case jalr | lb | lh | lw | ld | lbu | lhu | lwu | flw | fld | addi | slti | sltiu | xori | ori | andi | addiw | fenceI
      | csrrw | csrrs | csrrc | csrrwi | csrrsi | csrrci =>
    exact decode_of_callsAt rfl (id32_encI _ _ _ _ _) rfl (on_of_enabled he rfl)
      (by simp [FullHandler.run, fields_encI])
  case fence =>
    exact decode_of_callsAt rfl (id32_encI _ _ _ _ _) rfl (on_of_enabled he rfl)
      (by simp [FullHandler.run, fields_encI, fence_fields_encI])
  case ecall | ebreak | sret | mret | wfi =>
    exact decode_of_callsAt rfl (id32_encI _ _ _ _ _) rfl (on_of_enabled he rfl) rfl
  case beq | bne | blt | bge | bltu | bgeu =>
    exact decode_of_callsAt rfl (id32_encB _ _ _ _ _) rfl (on_of_enabled he rfl)
      (by simp [FullHandler.run, fields_encB])
  case sb | sh | sw | sd | fsw | fsd =>
    exact decode_of_callsAt rfl (id32_encS _ _ _ _ _) rfl (on_of_enabled he rfl)
      (by simp [FullHandler.run, fields_encS])
  case slli | srli | srai =>
    obtain ⟨-, -, hsh⟩ := (enabled_iff _ _).1 he
    rw [Instr.shamtOk] at hsh
    exact decode_of_callsAt rfl (id32_encShift _ _ _ _ _ _) rfl (on_of_enabled he rfl)
      (by simpa [FullHandler.run, shiftOk_encShift, fields_encShift, accept, Classical.or_iff_not_imp_left] using hsh)
  case add | sub | sll | slt | sltu | xor | srl | sra | or | and | slliw | srliw | sraiw | addw | subw | sllw | srlw
      | sraw | mul | mulh | mulhsu | mulhu | div | divu | rem | remu | mulw | divw | divuw | remw | remuw =>
    exact decode_of_callsAt rfl (id32_encR _ _ _ _ _ _) rfl (on_of_enabled he rfl)
      (by simp [FullHandler.run, fields_encR, accept])
  case sfenceVma rs1 rs2 =>
    exact decode_of_callsAt rfl (id32_encR _ _ _ _ _ _) rfl (on_of_enabled he rfl) (decodePriv_sfenceVma rs1 rs2)
  case lrW | scW | amoaddW | amoswapW | amoxorW | amoorW | amoandW | amominW | amomaxW | amominuW | amomaxuW =>
    exact decode_of_callsAt rfl (id32_encAmo _ _ _ _ _ _ _ _) rfl (on_of_enabled he rfl)
      (by simp [FullHandler.run, decodeAmoW, fields_encAmo, accept])
  case lrD | scD | amoaddD | amoswapD | amoxorD | amoorD | amoandD | amominD | amomaxD | amominuD | amomaxuD =>
    exact decode_of_callsAt rfl (id32_encAmo _ _ _ _ _ _ _ _) rfl (on_of_enabled he rfl)
      (by simp [FullHandler.run, decodeAmoD, fields_encAmo, accept])
  case faddS | fsubS | fmulS | fdivS | fsqrtS | fsgnjS | fsgnjnS | fsgnjxS | fminS | fmaxS | feqS | fltS | fleS | fclassS
      | fcvtWS | fcvtSW | fcvtWuS | fcvtSWu | fmvXW | fmvWX =>
    exact decode_of_callsAt rfl (id32_encR _ _ _ _ _ _) (callsAt_opFpS _) (on_of_enabled he rfl)
      (by simp [FullHandler.run, decodeOpFpS, fields_encR, accept])
  case fcvtLS | fcvtSL | fcvtLuS | fcvtSLu =>
    exact decode_of_callsAt rfl (id32_encR _ _ _ _ _ _) (callsAt_opFpS _) (on_of_enabled he rfl)
      (by simp [FullHandler.run, decodeOpFpS, fields_encR, accept, xlen_of_enabled he rfl])
  case fcvtSD =>
    obtain ⟨-, hd, -⟩ := (enabled_iff _ _).1 he
    exact decode_of_callsAt rfl (id32_encR _ _ _ _ _ _) (callsAt_opFpS _) (fOn_of_dOn hd)
      (by simp [FullHandler.run, decodeOpFpS, fields_encR, accept, show cfg.dOn = true from hd])
  case faddD | fsubD | fmulD | fdivD | fsqrtD | fsgnjD | fsgnjnD | fsgnjxD | fminD | fmaxD | feqD | fltD | fleD | fclassD
      | fcvtWD | fcvtDW | fcvtWuD | fcvtDWu | fcvtDS =>
    exact decode_of_callsAt rfl (id32_encR _ _ _ _ _ _) (callsAt_opFpD _) (on_of_enabled he rfl)
      (by simp [FullHandler.run, decodeOpFpD, fields_encR, accept])
  case fcvtLD | fcvtDL | fcvtLuD | fcvtDLu | fmvXD | fmvDX =>
    exact decode_of_callsAt rfl (id32_encR _ _ _ _ _ _) (callsAt_opFpD _) (on_of_enabled he rfl)
      (by simp [FullHandler.run, decodeOpFpD, fields_encR, accept, xlen_of_enabled he rfl])
  case fmaddS =>
    exact decode_encR4 (k := .fmaddS) rfl he (by simp [fpSlots, Instr.row])
      (by simp [FullHandler.run, fields_encR4, accept])
  case fmsubS =>
    exact decode_encR4 (k := .fmsubS) rfl he (by simp [fpSlots, Instr.row])
      (by simp [FullHandler.run, fields_encR4, accept])
  case fnmsubS =>
    exact decode_encR4 (k := .fnmsubS) rfl he (by simp [fpSlots, Instr.row])
      (by simp [FullHandler.run, fields_encR4, accept])
  case fnmaddS =>
    exact decode_encR4 (k := .fnmaddS) rfl he (by simp [fpSlots, Instr.row])
      (by simp [FullHandler.run, fields_encR4, accept])
  case fmaddD =>
    exact decode_encR4 (k := .fmaddD) rfl he (by simp [fpSlots, Instr.row])
      (by simp [FullHandler.run, fields_encR4, accept])
  case fmsubD =>
    exact decode_encR4 (k := .fmsubD) rfl he (by simp [fpSlots, Instr.row])
      (by simp [FullHandler.run, fields_encR4, accept])
  case fnmsubD =>
    exact decode_encR4 (k := .fnmsubD) rfl he (by simp [fpSlots, Instr.row])
      (by simp [FullHandler.run, fields_encR4, accept])
  case fnmaddD =>
    exact decode_encR4 (k := .fnmaddD) rfl he (by simp [fpSlots, Instr.row])
      (by simp [FullHandler.run, fields_encR4, accept])
  all_goals cases hf

/-- The 16-bit instructions, format by format. -/
theorem decode_encode_half {cfg : Config} {i : Instr} (hw : i.wf = true) (he : i.enabled cfg = true)
    (hf : extIsC i.row.ext = true) : decode cfg (encode i) = .ok i := by
  cases i
  case cAddi4spn =>
    exact decode_of_callsHalf rfl (fields_encCIW _ _).1 (filter_on he rfl)
      (by simpa [HalfHandler.run, accept, fields_encCIW, Instr.wf] using hw)
  case cFld | cFsd =>
    exact decode_of_callsHalf rfl (fields_encCD _ _ _ _ _).1 (filter_on he rfl)
      (by simp [HalfHandler.run, fields_encCD])
  case cLd | cSd =>
    exact decode_of_callsHalf rfl (fields_encCD _ _ _ _ _).1 (filter_on_rv64 he rfl rfl)
      (by simp [HalfHandler.run, fields_encCD])
  case cLw | cSw =>
    exact decode_of_callsHalf rfl (fields_encCW _ _ _ _ _).1 (filter_on he rfl)
      (by simp [HalfHandler.run, fields_encCW])
  case cFlw | cFsw =>
    exact decode_of_callsHalf rfl (fields_encCW _ _ _ _ _).1 (filter_on_rv32 he rfl rfl)
      (by simp [HalfHandler.run, fields_encCW])
  case cNop | cLi =>
    exact decode_of_callsHalf rfl (fields_encCI _ _ _ _).1 (filter_on he rfl)
      (by simp [HalfHandler.run, fields_encCI])
  case cAddi =>
    exact decode_of_callsHalf rfl (fields_encCI _ _ _ _).1 (filter_on he rfl)
      (by simpa [HalfHandler.run, fields_encCI, Instr.wf] using hw)
  case cAddiw =>
    exact decode_of_callsHalf rfl (fields_encCI _ _ _ _).1 (filter_on_rv64 he rfl rfl)
      (by simpa [HalfHandler.run, accept, fields_encCI, Instr.wf] using hw)
  case cLui rd imm =>
    have hw : rd ≠ 2#5 ∧ imm ≠ 0#6 := by simpa [Instr.wf] using hw
    exact decode_of_callsHalf rfl (fields_encCI _ _ _ _).1 (filter_on he rfl)
      (by simp [HalfHandler.run, accept, fields_encCI, hw])
  case cAddi16sp =>
    exact decode_of_callsHalf rfl (fields_encCAddi16sp _).1 (filter_on he rfl)
      (by simpa [HalfHandler.run, accept, fields_encCAddi16sp, Instr.wf] using hw)
  case cSlli =>
    obtain ⟨-, -, hsh⟩ := (enabled_iff _ _).1 he
    exact decode_of_callsHalf rfl (fields_encCI _ _ _ _).1 (filter_on he rfl)
      (by simpa [HalfHandler.run, accept, fields_encCI, Instr.shamtOk, Classical.or_iff_not_imp_left,
        -BitVec.getLsbD_eq_getElem] using hsh)
  case cSrli | cSrai =>
    obtain ⟨-, -, hsh⟩ := (enabled_iff _ _).1 he
    exact decode_of_callsHalf rfl (fields_encCBAlu _ _ _ _ _).1 (filter_on he rfl)
      (by simpa [HalfHandler.run, decodeCAlu, accept, fields_encCBAlu, Instr.shamtOk, Classical.or_iff_not_imp_left,
        -BitVec.getLsbD_eq_getElem] using hsh)
  case cAndi =>
    exact decode_of_callsHalf rfl (fields_encCBAlu _ _ _ _ _).1 (filter_on he rfl)
      (by simp [HalfHandler.run, decodeCAlu, fields_encCBAlu])
  case cSub | cXor | cOr | cAnd =>
    exact decode_of_callsHalf rfl (fields_encCA _ _ _ _ _).1 (filter_on he rfl)
      (by simp [HalfHandler.run, decodeCAlu, fields_encCA])
  case cSubw | cAddw =>
    exact decode_of_callsHalf rfl (fields_encCA _ _ _ _ _).1 (filter_on he rfl)
      (by simp [HalfHandler.run, decodeCAlu, accept, fields_encCA, xlen_of_enabled he rfl])
  case cJal =>
    exact decode_of_callsHalf rfl (fields_encCJ _ _ _).1 (filter_on_rv32 he rfl rfl)
      (by simp [HalfHandler.run, fields_encCJ])
  case cJ =>
    exact decode_of_callsHalf rfl (fields_encCJ _ _ _).1 (filter_on he rfl) (by simp [HalfHandler.run, fields_encCJ])
  case cBeqz | cBnez =>
    exact decode_of_callsHalf rfl (fields_encCB _ _ _ _).1 (filter_on he rfl)
      (by simp [HalfHandler.run, fields_encCB])
  case cFldsp =>
    exact decode_of_callsHalf rfl (fields_encCLdsp _ _ _ _).1 (filter_on he rfl)
      (by simp [HalfHandler.run, fields_encCLdsp])
  case cLdsp =>
    exact decode_of_callsHalf rfl (fields_encCLdsp _ _ _ _).1 (filter_on_rv64 he rfl rfl)
      (by simpa [HalfHandler.run, accept, fields_encCLdsp, Instr.wf] using hw)
  case cLwsp =>
    exact decode_of_callsHalf rfl (fields_encCLwsp _ _ _ _).1 (filter_on he rfl)
      (by simpa [HalfHandler.run, accept, fields_encCLwsp, Instr.wf] using hw)
  case cFlwsp =>
    exact decode_of_callsHalf rfl (fields_encCLwsp _ _ _ _).1 (filter_on_rv32 he rfl rfl)
      (by simp [HalfHandler.run, fields_encCLwsp])
  case cJr r | cMv _ r | cJalr r | cAdd _ r =>
    have hw : r ≠ 0#5 := by simpa [Instr.wf] using hw
    exact decode_of_callsHalf rfl (fields_encCR _ _ _ _).1 (filter_on he rfl)
      (by simp [HalfHandler.run, decodeCJrMvAdd, accept, fields_encCR, hw, -BitVec.getLsbD_eq_getElem])
  case cEbreak => exact decode_of_callsHalf rfl (fields_encCR _ _ _ _).1 (filter_on he rfl) rfl
  case cFsdsp =>
    exact decode_of_callsHalf rfl (fields_encCSdsp _ _ _ _).1 (filter_on he rfl)
      (by simp [HalfHandler.run, fields_encCSdsp])
  case cSdsp =>
    exact decode_of_callsHalf rfl (fields_encCSdsp _ _ _ _).1 (filter_on_rv64 he rfl rfl)
      (by simp [HalfHandler.run, fields_encCSdsp])
  case cSwsp =>
    exact decode_of_callsHalf rfl (fields_encCSwsp _ _ _ _).1 (filter_on he rfl)
      (by simp [HalfHandler.run, fields_encCSwsp])
  case cFswsp =>
    exact decode_of_callsHalf rfl (fields_encCSwsp _ _ _ _).1 (filter_on_rv32 he rfl rfl)
      (by simp [HalfHandler.run, fields_encCSwsp])
  all_goals cases hf

/-- The low two bits of every encoding tell its length. -/
theorem length_statement : ∀ i : Instr, Length.Statement i
  | .lui .. => Length.lui .. | .auipc .. => Length.auipc .. | .jal .. => Length.jal .. | .jalr .. => Length.jalr ..
  | .beq .. => Length.beq .. | .bne .. => Length.bne .. | .blt .. => Length.blt .. | .bge .. => Length.bge ..
  | .bltu .. => Length.bltu .. | .bgeu .. => Length.bgeu .. | .lb .. => Length.lb .. | .lh .. => Length.lh ..
  | .lw .. => Length.lw .. | .ld .. => Length.ld .. | .lbu .. => Length.lbu .. | .lhu .. => Length.lhu ..
  | .lwu .. => Length.lwu .. | .sb .. => Length.sb .. | .sh .. => Length.sh .. | .sw .. => Length.sw ..
  | .sd .. => Length.sd .. | .addi .. => Length.addi .. | .slti .. => Length.slti .. | .sltiu .. => Length.sltiu ..
  | .xori .. => Length.xori .. | .ori .. => Length.ori .. | .andi .. => Length.andi .. | .slli .. => Length.slli ..
  | .srli .. => Length.srli .. | .srai .. => Length.srai .. | .add .. => Length.add .. | .sub .. => Length.sub ..
  | .sll .. => Length.sll .. | .slt .. => Length.slt .. | .sltu .. => Length.sltu .. | .xor .. => Length.xor ..
  | .srl .. => Length.srl .. | .sra .. => Length.sra .. | .or .. => Length.or .. | .and .. => Length.and ..
  | .addiw .. => Length.addiw .. | .slliw .. => Length.slliw .. | .srliw .. => Length.srliw ..
  | .sraiw .. => Length.sraiw .. | .addw .. => Length.addw .. | .subw .. => Length.subw ..
  | .sllw .. => Length.sllw .. | .srlw .. => Length.srlw .. | .sraw .. => Length.sraw ..
  | .fence .. => Length.fence .. | .fenceI .. => Length.fenceI .. | .ecall .. => Length.ecall ..
  | .ebreak .. => Length.ebreak .. | .csrrw .. => Length.csrrw .. | .csrrs .. => Length.csrrs ..
  | .csrrc .. => Length.csrrc .. | .csrrwi .. => Length.csrrwi .. | .csrrsi .. => Length.csrrsi ..
  | .csrrci .. => Length.csrrci .. | .sret .. => Length.sret .. | .mret .. => Length.mret ..
  | .wfi .. => Length.wfi .. | .sfenceVma .. => Length.sfenceVma .. | .mul .. => Length.mul ..
  | .mulh .. => Length.mulh .. | .mulhsu .. => Length.mulhsu .. | .mulhu .. => Length.mulhu ..
  | .div .. => Length.div .. | .divu .. => Length.divu .. | .rem .. => Length.rem .. | .remu .. => Length.remu ..
  | .mulw .. => Length.mulw .. | .divw .. => Length.divw .. | .divuw .. => Length.divuw ..
  | .remw .. => Length.remw .. | .remuw .. => Length.remuw .. | .lrW .. => Length.lrW .. | .scW .. => Length.scW ..
  | .amoaddW .. => Length.amoaddW .. | .amoswapW .. => Length.amoswapW .. | .amoxorW .. => Length.amoxorW ..
  | .amoorW .. => Length.amoorW .. | .amoandW .. => Length.amoandW .. | .amominW .. => Length.amominW ..
  | .amomaxW .. => Length.amomaxW .. | .amominuW .. => Length.amominuW .. | .amomaxuW .. => Length.amomaxuW ..
  | .lrD .. => Length.lrD .. | .scD .. => Length.scD .. | .amoaddD .. => Length.amoaddD ..
  | .amoswapD .. => Length.amoswapD .. | .amoxorD .. => Length.amoxorD .. | .amoorD .. => Length.amoorD ..
  | .amoandD .. => Length.amoandD .. | .amominD .. => Length.amominD .. | .amomaxD .. => Length.amomaxD ..
  | .amominuD .. => Length.amominuD .. | .amomaxuD .. => Length.amomaxuD .. | .flw .. => Length.flw ..
  | .fsw .. => Length.fsw .. | .fmaddS .. => Length.fmaddS .. | .fmsubS .. => Length.fmsubS ..
  | .fnmsubS .. => Length.fnmsubS .. | .fnmaddS .. => Length.fnmaddS .. | .faddS .. => Length.faddS ..
  | .fsubS .. => Length.fsubS .. | .fmulS .. => Length.fmulS .. | .fdivS .. => Length.fdivS ..
  | .fsqrtS .. => Length.fsqrtS .. | .fsgnjS .. => Length.fsgnjS .. | .fsgnjnS .. => Length.fsgnjnS ..
  | .fsgnjxS .. => Length.fsgnjxS .. | .fminS .. => Length.fminS .. | .fmaxS .. => Length.fmaxS ..
  | .feqS .. => Length.feqS .. | .fltS .. => Length.fltS .. | .fleS .. => Length.fleS ..
  | .fclassS .. => Length.fclassS .. | .fcvtWS .. => Length.fcvtWS .. | .fcvtSW .. => Length.fcvtSW ..
  | .fcvtWuS .. => Length.fcvtWuS .. | .fcvtSWu .. => Length.fcvtSWu .. | .fcvtLS .. => Length.fcvtLS ..
  | .fcvtSL .. => Length.fcvtSL .. | .fcvtLuS .. => Length.fcvtLuS .. | .fcvtSLu .. => Length.fcvtSLu ..
  | .fmvXW .. => Length.fmvXW .. | .fmvWX .. => Length.fmvWX .. | .fld .. => Length.fld .. | .fsd .. => Length.fsd ..
  | .fmaddD .. => Length.fmaddD .. | .fmsubD .. => Length.fmsubD .. | .fnmsubD .. => Length.fnmsubD ..
  | .fnmaddD .. => Length.fnmaddD .. | .faddD .. => Length.faddD .. | .fsubD .. => Length.fsubD ..
  | .fmulD .. => Length.fmulD .. | .fdivD .. => Length.fdivD .. | .fsqrtD .. => Length.fsqrtD ..
  | .fsgnjD .. => Length.fsgnjD .. | .fsgnjnD .. => Length.fsgnjnD .. | .fsgnjxD .. => Length.fsgnjxD ..
  | .fminD .. => Length.fminD .. | .fmaxD .. => Length.fmaxD .. | .feqD .. => Length.feqD ..
  | .fltD .. => Length.fltD .. | .fleD .. => Length.fleD .. | .fclassD .. => Length.fclassD ..
  | .fcvtWD .. => Length.fcvtWD .. | .fcvtDW .. => Length.fcvtDW .. | .fcvtWuD .. => Length.fcvtWuD ..
  | .fcvtDWu .. => Length.fcvtDWu .. | .fcvtLD .. => Length.fcvtLD .. | .fcvtDL .. => Length.fcvtDL ..
  | .fcvtLuD .. => Length.fcvtLuD .. | .fcvtDLu .. => Length.fcvtDLu .. | .fcvtSD .. => Length.fcvtSD ..
  | .fcvtDS .. => Length.fcvtDS .. | .fmvXD .. => Length.fmvXD .. | .fmvDX .. => Length.fmvDX ..
  | .cAddi4spn .. => Length.cAddi4spn .. | .cFld .. => Length.cFld .. | .cLw .. => Length.cLw ..
  | .cFlw .. => Length.cFlw .. | .cLd .. => Length.cLd .. | .cFsd .. => Length.cFsd .. | .cSw .. => Length.cSw ..
  | .cFsw .. => Length.cFsw .. | .cSd .. => Length.cSd .. | .cNop .. => Length.cNop .. | .cAddi .. => Length.cAddi ..
  | .cJal .. => Length.cJal .. | .cAddiw .. => Length.cAddiw .. | .cLi .. => Length.cLi ..
  | .cAddi16sp .. => Length.cAddi16sp .. | .cLui .. => Length.cLui .. | .cSrli .. => Length.cSrli ..
  | .cSrai .. => Length.cSrai .. | .cAndi .. => Length.cAndi .. | .cSub .. => Length.cSub ..
  | .cXor .. => Length.cXor .. | .cOr .. => Length.cOr .. | .cAnd .. => Length.cAnd .. | .cSubw .. => Length.cSubw ..
  | .cAddw .. => Length.cAddw .. | .cJ .. => Length.cJ .. | .cBeqz .. => Length.cBeqz ..
  | .cBnez .. => Length.cBnez .. | .cSlli .. => Length.cSlli .. | .cFldsp .. => Length.cFldsp ..
  | .cLwsp .. => Length.cLwsp .. | .cFlwsp .. => Length.cFlwsp .. | .cLdsp .. => Length.cLdsp ..
  | .cJr .. => Length.cJr .. | .cMv .. => Length.cMv .. | .cEbreak .. => Length.cEbreak ..
  | .cJalr .. => Length.cJalr .. | .cAdd .. => Length.cAdd .. | .cFsdsp .. => Length.cFsdsp ..
  | .cSwsp .. => Length.cSwsp .. | .cFswsp .. => Length.cFswsp .. | .cSdsp .. => Length.cSdsp ..

/-- The decoder inverts the encoder on the well-formed instructions a configuration has (R179). -/
theorem decode_encode {cfg : Config} {i : Instr} (hw : i.wf = true) (he : i.enabled cfg = true) :
    decode cfg (encode i) = .ok i := by
  cases hx : extIsC i.row.ext with
  | false => exact decode_encode_full he hx
  | true => exact decode_encode_half hw he hx

/-! ## Decoding from bytes -/

theorem decodeBytes_half {cfg : Config} {h : BitVec 16} {i : Instr} (hl : isFull h = false)
    (hd : decode cfg (.half h) = .ok i) (rest : List Byte) :
    decodeBytes cfg (encBytes (.half h) ++ rest) = .ok (i, rest) := by
  have hparcel : parcel (h.extractLsb' 0 8) (h.extractLsb' 8 8) = h := by simp [parcel, extract_join]
  simp only [encBytes, decodeBytes, List.cons_append, List.nil_append, hparcel, hl, hd, Bool.false_eq_true, if_false]

theorem decodeBytes_full {cfg : Config} {w : BitVec 32} {i : Instr} (hl : isFull (w.extractLsb' 0 16) = true)
    (hd : decode cfg (.full w) = .ok i) (rest : List Byte) :
    decodeBytes cfg (encBytes (.full w) ++ rest) = .ok (i, rest) := by
  have hlow : parcel (w.extractLsb' 0 8) (w.extractLsb' 8 8) = w.extractLsb' 0 16 := by simp [parcel, extract_join]
  have hhigh : parcel (w.extractLsb' 16 8) (w.extractLsb' 24 8) = w.extractLsb' 16 16 := by simp [parcel, extract_join]
  have hword : w.extractLsb' 16 16 ++ w.extractLsb' 0 16 = w := by simp [extract_join]
  simp only [encBytes, decodeBytes, List.cons_append, List.nil_append, hlow, hhigh, hword, hl, hd, if_true]

/-- Settles O4: the low two bits tell the length, and the decoder inverts the encoder. -/
theorem decodeBytesTakesLength : Obligations.DecodeBytesTakesLength := by
  intro cfg i rest hw he
  have hd := decode_encode hw he
  have hl := length_statement i
  unfold Length.Statement at hl
  cases henc : encode i with
  | half h =>
    rw [henc] at hd hl
    exact decodeBytes_half hl.1 hd rest
  | full w =>
    rw [henc] at hd hl
    exact decodeBytes_full hl.1 hd rest

end Sys2Proof.Machine
end

section
/-! SUPPORT. An instruction that computes one result, in the terms of the statements, and register values, immediates and
shifts as integers modulo 2^XLEN. From these the results of the base integer instructions (O13 to O16). -/

namespace Sys2Proof.Machine

open Sys2Proof.Spec

/-! ## What writing a result does -/

theorem State.rdX_result_same (s : State) (len : Nat) {rd : Reg} (v : BitVec s.w) (h : rd ≠ 0) :
    (s.result len rd v).rdX s.w rd = v := by
  rw [State.rdX_congr _ _ _ _ (State.result_x _ _ _ _), State.rdX_wrX_same _ _ _ s.w_le h]

theorem result_pc_eq_seqPc (s : State) (len : Nat) (rd : Reg) (v : BitVec s.w) :
    ((s.result len rd v).pc.toNat : Int) = seqPc s len := by
  rw [State.result_pc_congr (s := s) rfl rfl, advance_pc_eq_seqPc]

theorem onlyX_result (s : State) (len : Nat) (rd : Reg) (v : BitVec s.w) : OnlyX s (s.result len rd v) rd := by
  obtain ⟨-, hother, hzero⟩ := writesX_result (s := s) rfl len rd v fun _ => rfl
  obtain ⟨x, pc, hframe⟩ := s.result_frame len rd v
  exact ⟨hother, hzero, fun a => by rw [State.result_mem], by rw [hframe]⟩

theorem toNat_ofInt_eq_emod (w : Nat) (n : Int) : ((BitVec.ofInt w n).toNat : Int) = n % (2 ^ w : Nat) := by
  rw [BitVec.toNat_ofInt,
    Int.toNat_of_nonneg (Int.emod_nonneg _ (Int.natCast_ne_zero.2 (Nat.ne_of_gt (Nat.two_pow_pos w))))]

theorem toNat_ofInt_eq_wrap (s : State) (n : Int) : ((BitVec.ofInt s.w n).toNat : Int) = wrap s n := by
  rw [toNat_ofInt_eq_emod, wrap, Int.natCast_pow]
  rfl

/-- An instruction that answers the state with a result written sets rd to the integer the result stands for. -/
theorem sets_of_exec {i : Instr} {s : State} {len : Nat} {rd : Reg} {v : BitVec s.w} {n : Int}
    (h : exec i s = .next (s.result len rd v)) (hv : v = BitVec.ofInt s.w n) : Sets i s len rd n :=
  ⟨_, h, result_pc_eq_seqPc s len rd v, onlyX_result s len rd v, fun hrd => by
    rw [State.rdX_result_same s len v hrd, hv, toNat_ofInt_eq_wrap]⟩

theorem setsBits_of_exec {i : Instr} {s : State} {len : Nat} {rd : Reg} {v : BitVec s.w} {b : Nat → Bool}
    (h : exec i s = .next (s.result len rd v)) (hv : ∀ k < s.w, v.getLsbD k = b k) : SetsBits i s len rd b :=
  ⟨_, h, result_pc_eq_seqPc s len rd v, onlyX_result s len rd v, fun hrd => by
    rwa [State.rdX_result_same s len v hrd]⟩

/-- What an instruction would write to x0 does not matter. -/
theorem sets_zero_any {i : Instr} {s : State} {len : Nat} {n : Int} (h : Sets i s len 0 n) (m : Int) :
    Sets i s len 0 m := by
  obtain ⟨t, hexec, hpc, honly, -⟩ := h
  exact ⟨t, hexec, hpc, honly, fun hrd => absurd rfl hrd⟩

/-- A live instruction passes its check. -/
theorem exec_of_live {i : Instr} {s t : State} (hl : Live i s) (h : exec i s = .next (s.whenEnabled i t)) :
    exec i s = .next t := by
  rw [h, State.whenEnabled_on s t i hl.1 hl.2]

theorem sets_of_live {i : Instr} {s : State} {len : Nat} {rd : Reg} {v : BitVec s.w} {n : Int} (hl : Live i s)
    (h : exec i s = .next (s.whenEnabled i (s.result len rd v))) (hv : v = BitVec.ofInt s.w n) : Sets i s len rd n :=
  sets_of_exec (exec_of_live hl h) hv

theorem setsBits_of_live {i : Instr} {s : State} {len : Nat} {rd : Reg} {v : BitVec s.w} {b : Nat → Bool} (hl : Live i s)
    (h : exec i s = .next (s.whenEnabled i (s.result len rd v))) (hv : ∀ k < s.w, v.getLsbD k = b k) :
    SetsBits i s len rd b :=
  setsBits_of_exec (exec_of_live hl h) hv

/-! ## Registers and immediates as integers -/

theorem ofInt_xu (s : State) (r : Reg) : BitVec.ofInt s.w (xu s r) = s.rdX s.w r := by
  rw [xu, BitVec.ofInt_natCast, BitVec.ofNat_toNat, BitVec.setWidth_eq]

theorem ofInt_xs (s : State) (r : Reg) : BitVec.ofInt s.w (xs s r) = s.rdX s.w r := BitVec.ofInt_toInt

theorem ofInt_pc (s : State) : BitVec.ofInt s.w s.pc.toNat = s.rdPc s.w := by
  rw [BitVec.ofInt_natCast, BitVec.ofNat_toNat, State.rdPc]

theorem ofInt_sub (w : Nat) (a b : Int) : BitVec.ofInt w (a - b) = BitVec.ofInt w a - BitVec.ofInt w b := by
  rw [Int.sub_eq_add_neg, BitVec.ofInt_add, BitVec.ofInt_neg, BitVec.sub_eq_add_neg]

/-- A sign-extended field with k zero bits below it is the field times 2^k. -/
theorem signExtend_append_zero_eq_ofInt (w : Nat) {m : Nat} (imm : BitVec m) (k : Nat) :
    (imm ++ 0#k).signExtend w = BitVec.ofInt w (imm.toInt * 2 ^ k) := by
  rw [BitVec.signExtend, BitVec.toInt_append_zero, Int.mul_comm]

theorem immU_eq_ofInt (w : Nat) (imm : BitVec 20) : immU w imm = BitVec.ofInt w (imm.toInt * 2 ^ 12) :=
  signExtend_append_zero_eq_ofInt w imm 12

theorem immCLui_eq_ofInt (w : Nat) (imm : BitVec 6) : immCLui w imm = BitVec.ofInt w (imm.toInt * 2 ^ 12) :=
  signExtend_append_zero_eq_ofInt w imm 12

theorem imm16sp_eq_ofInt (w : Nat) (imm : BitVec 6) : imm16sp w imm = BitVec.ofInt w (16 * imm.toInt) := by
  rw [Int.mul_comm]
  exact signExtend_append_zero_eq_ofInt w imm 4

theorem uimm4spn_eq_ofInt (w : Nat) (imm : BitVec 8) : uimm4spn w imm = BitVec.ofInt w (4 * imm.toNat) :=
  setWidth_append_zero_eq_ofInt w imm 2

theorem imm6_eq_ofInt (w : Nat) (imm : BitVec 6) : imm6 w imm = BitVec.ofInt w imm.toInt := rfl

/-! ## Sums -/

theorem rdX_add_eq_ofInt (s : State) (r₁ r₂ : Reg) : s.rdX s.w r₁ + s.rdX s.w r₂ =
    BitVec.ofInt s.w (xu s r₁ + xu s r₂) := by
  rw [BitVec.ofInt_add, ofInt_xu, ofInt_xu]

theorem rdX_sub_eq_ofInt (s : State) (r₁ r₂ : Reg) : s.rdX s.w r₁ - s.rdX s.w r₂ =
    BitVec.ofInt s.w (xu s r₁ - xu s r₂) := by
  rw [ofInt_sub, ofInt_xu, ofInt_xu]

theorem rdX_add_imm_eq_ofInt (s : State) (r : Reg) {imm : BitVec s.w} {n : Int} (h : imm = BitVec.ofInt s.w n) :
    s.rdX s.w r + imm = BitVec.ofInt s.w (xu s r + n) := by
  rw [BitVec.ofInt_add, ofInt_xu, h]

theorem xu_zero (s : State) : xu s 0 = 0 := congrArg Int.ofNat (BitVec.toNat_zero (w := s.w))

/-- Settles O13: each result is an `ofInt` of the sum; C.LI and C.MV add to x0, which reads 0. -/
theorem sumResults : Obligations.SumResults := by
  intro s
  simp only [← creg_eq_reg3]
  have hx0 (n : Int) : n = xu s 0 + n := by rw [xu_zero, Int.zero_add]
  refine ⟨fun _ imm => sets_of_exec rfl (immU_eq_ofInt _ imm), fun _ imm => sets_of_exec rfl ?auipc,
    fun _ rs1 imm => sets_of_exec rfl (rdX_add_imm_eq_ofInt s rs1 (imm12_eq_ofInt _ imm)),
    fun _ rs1 rs2 => sets_of_exec rfl (rdX_add_eq_ofInt s rs1 rs2),
    fun _ rs1 rs2 => sets_of_exec rfl (rdX_sub_eq_ofInt s rs1 rs2),
    fun _ imm hl => sets_of_live hl rfl (rdX_add_imm_eq_ofInt s 2 (uimm4spn_eq_ofInt _ imm)),
    fun imm hl => sets_zero_any (sets_of_live hl rfl (rdX_add_imm_eq_ofInt s 0 (imm6_eq_ofInt _ imm))) 0,
    fun rd imm hl => sets_of_live hl rfl (rdX_add_imm_eq_ofInt s rd (imm6_eq_ofInt _ imm)),
    fun _ imm hl => sets_of_live hl rfl ?li,
    fun imm hl => sets_of_live hl rfl (rdX_add_imm_eq_ofInt s 2 (imm16sp_eq_ofInt _ imm)),
    fun _ imm hl => sets_of_live hl rfl (immCLui_eq_ofInt _ imm),
    fun _ rs2 hl => sets_of_live hl rfl ?mv,
    fun rd rs2 hl => sets_of_live hl rfl (rdX_add_eq_ofInt s rd rs2),
    fun rd rs2 hl => sets_of_live hl rfl (rdX_sub_eq_ofInt s (creg rd) (creg rs2))⟩
  case auipc => rw [BitVec.ofInt_add, ofInt_pc, immU_eq_ofInt]
  case li => rw [hx0 imm.toInt]; exact rdX_add_imm_eq_ofInt s 0 (imm6_eq_ofInt _ imm)
  case mv => rw [hx0 (xu s rs2)]; exact rdX_add_eq_ofInt s 0 rs2

/-! ## Comparisons and bits -/

theorem boolWord_eq_ofInt (w : Nat) {b : Bool} {p : Prop} [Decidable p] (h : b = true ↔ p) :
    boolWord w b = BitVec.ofInt w (if p then 1 else 0) := by
  cases b with
  | true => rw [if_pos (h.1 rfl)]; rfl
  | false => rw [if_neg fun hp => Bool.false_ne_true (h.2 hp)]; rfl

theorem rdX_slt_iff (s : State) (r : Reg) {v : BitVec s.w} {n : Int} (hv : v.toInt = n) :
    (s.rdX s.w r).slt v = true ↔ xs s r < n := by
  rw [BitVec.slt_iff_toInt_lt, hv, xs]

theorem rdX_ult_iff (s : State) (r : Reg) {v : BitVec s.w} {n : Int} (hv : (v.toNat : Int) = n) :
    (s.rdX s.w r).ult v = true ↔ xu s r < n := by
  rw [BitVec.ult_iff_lt, BitVec.lt_def, ← hv, xu, Int.ofNat_lt]

theorem imm12_toInt (s : State) (imm : BitVec 12) : (imm12 s.w imm).toInt = imm.toInt :=
  BitVec.toInt_signExtend_of_le (Nat.le_trans (by decide) s.w_pos)

theorem getLsbD_signExtend_eq_sextBit {w n k : Nat} (v : BitVec n) (h : k < w) :
    (v.signExtend w).getLsbD k = sextBit v k := by
  rw [BitVec.getLsbD_signExtend, BitVec.msb_eq_getLsbD_last, sextBit, decide_eq_true h, Bool.true_and]
  split
  · rw [Nat.min_eq_left (by omega)]
  · rw [Nat.min_eq_right (by omega)]

/-- Settles O14: the comparisons by what `slt` and `ult` mean, the bitwise operations bit by bit. -/
theorem comparisonAndBitwiseResults : Obligations.ComparisonAndBitwiseResults := by
  intro s
  simp only [← creg_eq_reg3]
  refine ⟨fun _ rs1 imm => sets_of_exec rfl (boolWord_eq_ofInt _ (rdX_slt_iff s rs1 (imm12_toInt s imm))),
    fun _ rs1 imm => sets_of_exec rfl (boolWord_eq_ofInt _ (rdX_ult_iff s rs1 (toNat_ofInt_eq_wrap s imm.toInt))),
    fun _ rs1 _ => sets_of_exec rfl (boolWord_eq_ofInt _ (rdX_slt_iff s rs1 rfl)),
    fun _ rs1 _ => sets_of_exec rfl (boolWord_eq_ofInt _ (rdX_ult_iff s rs1 rfl)),
    fun _ _ imm => setsBits_of_exec rfl fun k hk => ?_,
    fun _ _ imm => setsBits_of_exec rfl fun k hk => ?_,
    fun _ _ imm => setsBits_of_exec rfl fun k hk => ?_,
    fun _ _ _ => setsBits_of_exec rfl fun _ _ => BitVec.getLsbD_xor,
    fun _ _ _ => setsBits_of_exec rfl fun _ _ => BitVec.getLsbD_or,
    fun _ _ _ => setsBits_of_exec rfl fun _ _ => BitVec.getLsbD_and,
    fun _ imm hl => setsBits_of_live hl rfl fun k hk => ?_,
    fun _ _ hl => setsBits_of_live hl rfl fun _ _ => BitVec.getLsbD_xor,
    fun _ _ hl => setsBits_of_live hl rfl fun _ _ => BitVec.getLsbD_or,
    fun _ _ hl => setsBits_of_live hl rfl fun _ _ => BitVec.getLsbD_and⟩
  · rw [BitVec.getLsbD_xor, imm12, getLsbD_signExtend_eq_sextBit imm hk, xbit]
  · rw [BitVec.getLsbD_or, imm12, getLsbD_signExtend_eq_sextBit imm hk, xbit]
  · rw [BitVec.getLsbD_and, imm12, getLsbD_signExtend_eq_sextBit imm hk, xbit]
  · rw [BitVec.getLsbD_and, imm6, getLsbD_signExtend_eq_sextBit imm hk, xbit]

/-! ## Shifts -/

theorem shiftLeft_eq_ofInt {w : Nat} (x : BitVec w) (k : Nat) : x <<< k = BitVec.ofInt w (x.toNat * 2 ^ k) := by
  have h : (x.toNat : Int) * 2 ^ k = ((x.toNat * 2 ^ k : Nat) : Int) := by rw [Int.natCast_mul, Int.natCast_pow]; rfl
  rw [h, BitVec.ofInt_natCast, ← Nat.shiftLeft_eq]
  rfl

theorem ushiftRight_eq_ofInt {w : Nat} (x : BitVec w) (k : Nat) : x >>> k = BitVec.ofInt w (x.toNat / 2 ^ k) := by
  have h : (x.toNat : Int) / 2 ^ k = ((x.toNat >>> k : Nat) : Int) := by
    rw [Nat.shiftRight_eq_div_pow, Int.natCast_ediv, Int.natCast_pow]
    rfl
  rw [h, BitVec.ofInt_natCast, ← BitVec.toNat_ushiftRight, BitVec.ofNat_toNat, BitVec.setWidth_eq]

theorem sshiftRight_eq_ofInt {w : Nat} (x : BitVec w) (k : Nat) :
    x.sshiftRight k = BitVec.ofInt w (x.toInt / 2 ^ k) := by
  rw [BitVec.sshiftRight_eq, Int.shiftRight_eq_div_pow, Int.natCast_pow]
  rfl

theorem shiftAmount_rdX (s : State) (r : Reg) : shiftAmount (s.rdX s.w r) = (xu s r % s.w).toNat := rfl

/-- Settles O15: a shift by k multiplies or divides by 2^k. -/
theorem shiftResults : Obligations.ShiftResults := by
  intro s
  simp only [← creg_eq_reg3, ← shiftAmount_rdX]
  exact ⟨fun _ _ _ hl => sets_of_live hl rfl (shiftLeft_eq_ofInt _ _),
    fun _ _ _ hl => sets_of_live hl rfl (ushiftRight_eq_ofInt _ _),
    fun _ _ _ hl => sets_of_live hl rfl (sshiftRight_eq_ofInt _ _),
    fun _ _ hl => sets_of_live hl rfl (shiftLeft_eq_ofInt _ _),
    fun _ _ hl => sets_of_live hl rfl (ushiftRight_eq_ofInt _ _),
    fun _ _ hl => sets_of_live hl rfl (sshiftRight_eq_ofInt _ _),
    fun _ _ _ => sets_of_exec rfl (shiftLeft_eq_ofInt _ _),
    fun _ _ _ => sets_of_exec rfl (ushiftRight_eq_ofInt _ _),
    fun _ _ _ => sets_of_exec rfl (sshiftRight_eq_ofInt _ _)⟩

/-! ## The 32-bit forms -/

theorem low32_eq_ofInt {w : Nat} (hw : 32 ≤ w) (n : Int) : low32 (BitVec.ofInt w n) = BitVec.ofInt 32 n := by
  apply BitVec.eq_of_toNat_eq
  apply Int.ofNat_inj.1
  rw [low32, BitVec.toNat_setWidth, Int.natCast_emod, toNat_ofInt_eq_emod, toNat_ofInt_eq_emod]
  exact Int.emod_emod_of_dvd n (Int.natCast_dvd_natCast.2 (Nat.pow_dvd_pow 2 hw))

/-- A 32-bit result is sign-extended to the integer it stands for. -/
theorem sext32_ofInt (w : Nat) (n : Int) : sext32 w (BitVec.ofInt 32 n) = BitVec.ofInt w (sext32Int n) := by
  rw [sext32, BitVec.signExtend, BitVec.toInt_ofInt, sext32Int]

theorem sext32_low32_eq_ofInt (s : State) {v : BitVec s.w} {n : Int} (h : v = BitVec.ofInt s.w n) :
    sext32 s.w (low32 v) = BitVec.ofInt s.w (sext32Int n) := by
  rw [h, low32_eq_ofInt s.w_pos, sext32_ofInt]

theorem low32_toNat (s : State) (r : Reg) : ((low32 (s.rdX s.w r)).toNat : Int) = xu32 s r := by
  rw [low32, BitVec.toNat_setWidth, xu32, xu, Int.natCast_emod]
  rfl

theorem low32_toInt (s : State) (r : Reg) : (low32 (s.rdX s.w r)).toInt = xs32 s r := by
  rw [low32, BitVec.toInt_setWidth, xs32, xu]

theorem shiftAmount_low32 (s : State) (r : Reg) : shiftAmount (low32 (s.rdX s.w r)) = (xu s r % 32).toNat := by
  rw [shiftAmount, low32, BitVec.toNat_setWidth, Nat.mod_mod_of_dvd _ (by decide)]
  rfl

theorem sllw_eq_ofInt (s : State) (r : Reg) (k : Nat) :
    sext32 s.w (low32 (s.rdX s.w r) <<< k) = BitVec.ofInt s.w (sext32Int (xu32 s r * 2 ^ k)) := by
  rw [shiftLeft_eq_ofInt, low32_toNat, sext32_ofInt]

theorem srlw_eq_ofInt (s : State) (r : Reg) (k : Nat) :
    sext32 s.w (low32 (s.rdX s.w r) >>> k) = BitVec.ofInt s.w (sext32Int (xu32 s r / 2 ^ k)) := by
  rw [ushiftRight_eq_ofInt, low32_toNat, sext32_ofInt]

theorem sraw_eq_ofInt (s : State) (r : Reg) (k : Nat) :
    sext32 s.w ((low32 (s.rdX s.w r)).sshiftRight k) = BitVec.ofInt s.w (xs32 s r / 2 ^ k) := by
  rw [sext32, BitVec.signExtend, BitVec.toInt_sshiftRight, low32_toInt, Int.shiftRight_eq_div_pow, Int.natCast_pow]
  rfl

theorem shamtOk_rv64 (i : Instr) : i.shamtOk .rv64 = true := by
  unfold Instr.shamtOk
  split <;> rfl

/-- An instruction of XLEN = 64 only is live where the configuration has its module. -/
theorem live_of_rv64 {i : Instr} {s : State} (hs : s.cfg.xlen = .rv64) (hx : i.row.xlen = some .rv64)
    (he : s.cfg.extOn i.row.ext = true) (hw : i.wf = true) : Live i s :=
  ⟨hw, (enabled_iff _ _).2 ⟨.inr (hx.trans (congrArg some hs.symm)), he, hs ▸ shamtOk_rv64 i⟩⟩

/-- Settles O16: the 32-bit result as an integer, sign-extended. -/
theorem wordFormResults : Obligations.WordFormResults := by
  intro s hs
  have hlive {i : Instr} := live_of_rv64 (i := i) hs
  simp only [← creg_eq_reg3, ← shiftAmount_low32]
  refine ⟨fun _ rs1 imm => sets_of_live (hlive rfl rfl rfl) rfl
      (sext32_low32_eq_ofInt s (rdX_add_imm_eq_ofInt s rs1 (imm12_eq_ofInt _ imm))),
    fun _ rs1 _ => sets_of_live (hlive rfl rfl rfl) rfl (sllw_eq_ofInt s rs1 _),
    fun _ rs1 _ => sets_of_live (hlive rfl rfl rfl) rfl (srlw_eq_ofInt s rs1 _),
    fun _ rs1 _ => sets_of_live (hlive rfl rfl rfl) rfl (sraw_eq_ofInt s rs1 _),
    fun _ rs1 rs2 => sets_of_live (hlive rfl rfl rfl) rfl (sext32_low32_eq_ofInt s (rdX_add_eq_ofInt s rs1 rs2)),
    fun _ rs1 rs2 => sets_of_live (hlive rfl rfl rfl) rfl (sext32_low32_eq_ofInt s (rdX_sub_eq_ofInt s rs1 rs2)),
    fun _ rs1 _ => sets_of_live (hlive rfl rfl rfl) rfl (sllw_eq_ofInt s rs1 _),
    fun _ rs1 _ => sets_of_live (hlive rfl rfl rfl) rfl (srlw_eq_ofInt s rs1 _),
    fun _ rs1 _ => sets_of_live (hlive rfl rfl rfl) rfl (sraw_eq_ofInt s rs1 _),
    fun hc => ⟨fun rd imm hrd => sets_of_live (hlive rfl hc (bne_iff_ne.2 hrd)) rfl
        (sext32_low32_eq_ofInt s (rdX_add_imm_eq_ofInt s rd (imm6_eq_ofInt _ imm))),
      fun _ _ => sets_of_live (hlive rfl hc rfl) rfl (sext32_low32_eq_ofInt s (rdX_add_eq_ofInt s _ _)),
      fun _ _ => sets_of_live (hlive rfl hc rfl) rfl (sext32_low32_eq_ofInt s (rdX_sub_eq_ofInt s _ _))⟩⟩

end Sys2Proof.Machine
end

section
/-! SUPPORT. Jumps and branches in the terms of the statements: each is `jumpLink` to the word its target stands for, a taken
branch with a link to x0. From this their results (O19, O20) and their traps (O21). -/

namespace Sys2Proof.Machine

open Sys2Proof.Spec

/-! ## Only registers and the pc change -/

theorem onlyX_refl (s : State) : OnlyX s s 0 := ⟨fun _ _ => rfl, fun _ => rfl, fun _ => rfl, rfl⟩

theorem onlyX_wrX (s : State) (rd : Reg) {w : Nat} (v : BitVec w) : OnlyX s (s.wrX rd v) rd := by
  refine ⟨fun _ hr => State.rdX_wrX_other _ _ _ _ _ hr, fun hrd => by rw [State.wrX_x, if_pos hrd],
    fun _ => by rw [State.wrX_mem], ?_⟩
  unfold State.wrX
  split <;> rfl

/-- Moving the pc is no further change. -/
theorem onlyX_jump {s t : State} {rd : Reg} (h : OnlyX s t rd) {w : Nat} (target : BitVec w) :
    OnlyX s (t.jump target) rd := by
  obtain ⟨hother, hzero, hmem, hframe⟩ := h
  exact ⟨hother, hzero, hmem, congrArg (fun u : State => u.jump target) hframe⟩

/-! ## Targets -/

theorem jump_pc_toNat (s t : State) (target : BitVec s.w) : (t.jump target).pc.toNat = target.toNat :=
  s.toNat_slot target

theorem nextPc_eq_seqPc (s : State) (len : Nat) : ((s.nextPc s.w len).toNat : Int) = seqPc s len := by
  rw [← s.toNat_slot, ← State.advance_pc, advance_pc_eq_seqPc]

/-- A signed field with a zero bit below it, as the offsets of jumps and branches are, is twice the field. -/
theorem signExtend_append_bit_eq_ofInt (w : Nat) {m : Nat} (off : BitVec m) :
    (off ++ 0#1).signExtend w = BitVec.ofInt w (2 * off.toInt) := by
  rw [signExtend_append_zero_eq_ofInt, Int.mul_comm]
  rfl

/-- The target of JAL and of the branches. -/
theorem pc_add_offset_toNat (s : State) {m : Nat} (off : BitVec m) :
    ((s.rdPc s.w + (off ++ 0#1).signExtend s.w).toNat : Int) = wrap s (s.pc.toNat + 2 * off.toInt) := by
  rw [signExtend_append_bit_eq_ofInt, ← ofInt_pc, ← BitVec.ofInt_add, toNat_ofInt_eq_wrap]

theorem clearBits_one (n : Nat) : clearBits n 1 = n / 2 * 2 := by
  have hdiv : (n ^^^ n % 2) / 2 = n / 2 := by
    rw [Nat.xor_div_two, Nat.div_eq_of_lt (Nat.mod_lt n (by decide)), Nat.xor_zero]
  have hmod : (n ^^^ n % 2) % 2 = 0 := by
    rw [← Nat.pow_one 2, Nat.xor_mod_two_pow, Nat.mod_mod, Nat.xor_self]
  rw [clearBits, Nat.and_one_is_mod]
  omega

/-- The target of JALR: bit 0 of the sum is cleared. -/
theorem rdX_add_imm_even_toNat (s : State) (rs1 : Reg) {imm : BitVec s.w} {n : Int} (h : imm = BitVec.ofInt s.w n) :
    (((s.rdX s.w rs1 + imm) &&& ~~~BitVec.ofNat s.w 1).toNat : Int) = evenTarget s rs1 n := by
  have hone : (BitVec.ofNat s.w 1).toNat = 1 := Nat.mod_eq_of_lt (Nat.one_lt_two_pow (by have := s.w_pos; omega))
  rw [toNat_and_not, hone, clearBits_one, rdX_add_imm_eq_ofInt s rs1 h, evenTarget, ← toNat_ofInt_eq_wrap]
  rfl

/-- The tval of a misaligned target. -/
theorem setWidth_eq_addrWord (s : State) (v : BitVec s.w) : v.setWidth 64 = addrWord s v.toNat := by
  have hwrap : wrap s v.toNat = v.toNat := by
    rw [← toNat_ofInt_eq_wrap, BitVec.ofInt_natCast, BitVec.ofNat_toNat, BitVec.setWidth_eq]
  rw [addrWord, hwrap, BitVec.ofInt_natCast, BitVec.ofNat_toNat]

/-! ## Alignment of a target -/

theorem misalignedTarget_iff (s : State) (target : BitVec s.w) :
    s.misalignedTarget target = true ↔ (target.toNat : Int) % align s ≠ 0 := by
  have halign : align s = (s.cfg.instrAlign : Int) := by
    unfold align Config.instrAlign
    split <;> rfl
  rw [State.misalignedTarget, decide_eq_true_iff, halign]
  norm_cast

theorem jumpLink_of_aligned {s : State} {target : BitVec s.w} (h : (target.toNat : Int) % align s = 0) (len : Nat)
    (rd : Reg) : s.jumpLink len rd target = (s.wrX rd (s.nextPc s.w len)).jump target := by
  obtain ⟨hm, -⟩ | ⟨-, heq⟩ := s.jumpLink_cases len rd target
  · exact absurd h ((misalignedTarget_iff s target).1 hm)
  · exact heq

theorem jumpLink_of_misaligned {s : State} {target : BitVec s.w} (h : (target.toNat : Int) % align s ≠ 0) (len : Nat)
    (rd : Reg) : s.jumpLink len rd target = s.raise .instrMisaligned (addrWord s target.toNat) := by
  obtain ⟨-, heq⟩ | ⟨hm, -⟩ := s.jumpLink_cases len rd target
  · rw [heq, setWidth_eq_addrWord]
  · exact absurd ((misalignedTarget_iff s target).2 h) (Bool.eq_false_iff.1 hm)

theorem traps_of_jumpLink {i : Instr} {s : State} {len : Nat} {rd : Reg} {target : BitVec s.w}
    (hexec : exec i s = .next (s.jumpLink len rd target)) (h : (target.toNat : Int) % align s ≠ 0) :
    Traps i s .instrMisaligned (addrWord s target.toNat) :=
  ⟨_, hexec.trans (congrArg _ (jumpLink_of_misaligned h len rd)), trapTaken_raise s _ _⟩

theorem wrap_mod_two (s : State) (n : Int) : wrap s n % 2 = n % 2 := by
  have hdvd : (2 : Int) ∣ 2 ^ s.w := by
    rw [← Nat.sub_add_cancel (Nat.le_trans (by decide : 1 ≤ 32) s.w_pos), Int.pow_succ]
    exact Int.dvd_mul_left _ 2
  exact Int.emod_emod_of_dvd n hdvd

theorem pc_add_offset_even {s : State} (hp : s.pc.toNat % 2 = 0) (off : Int) :
    wrap s (s.pc.toNat + 2 * off) % 2 = 0 := by
  rw [wrap_mod_two]
  omega

theorem evenTarget_mod_two (s : State) (rs1 : Reg) (imm : Int) : evenTarget s rs1 imm % 2 = 0 :=
  Int.mul_emod_left _ 2

/-- With compressed instructions an even target is aligned (R461). -/
theorem even_target_aligned {s : State} {len : Nat} {target : Int} (hl : LenOk s len) (hlen : len = 2)
    (ht : target % 2 = 0) : target % align s = 0 := by
  obtain h4 | ⟨-, hc⟩ := hl
  · omega
  · rwa [align, if_pos hc]

/-! ## Jumps -/

/-- A live jump is `jumpLink` to the word of its target. -/
theorem exec_of_isJump {s : State} {j : Jump} (h : IsJump s j) (hl : Live j.instr s) :
    ∃ target : BitVec s.w, (target.toNat : Int) = j.target ∧ exec j.instr s = .next (s.jumpLink j.len j.rd target) := by
  have hzero : (0 : BitVec s.w) = BitVec.ofInt s.w 0 := (BitVec.ofInt_natCast s.w 0).symm
  cases h with
  | jal _ off => exact ⟨_, pc_add_offset_toNat s off, rfl⟩
  | jalr _ rs1 imm => exact ⟨_, rdX_add_imm_even_toNat s rs1 (imm12_eq_ofInt _ imm), rfl⟩
  | cJ off => exact ⟨_, pc_add_offset_toNat s off, exec_of_live hl rfl⟩
  | cJal off => exact ⟨_, pc_add_offset_toNat s off, exec_of_live hl rfl⟩
  | cJr rs1 => exact ⟨_, rdX_add_imm_even_toNat s rs1 hzero, exec_of_live hl rfl⟩
  | cJalr rs1 => exact ⟨_, rdX_add_imm_even_toNat s rs1 hzero, exec_of_live hl rfl⟩

theorem lenOk_of_isJump {s : State} {j : Jump} (h : IsJump s j) (hl : Live j.instr s) : LenOk s j.len := by
  cases h with
  | jal | jalr => exact .inl rfl
  | cJ | cJal | cJr | cJalr => exact lenOk_half s _ hl.2 (.inl rfl)

theorem isJump_target_even {s : State} {j : Jump} (h : IsJump s j) (hp : s.pc.toNat % 2 = 0) : j.target % 2 = 0 := by
  cases h with
  | jal | cJ | cJal => exact pc_add_offset_even hp _
  | jalr | cJr | cJalr => exact evenTarget_mod_two s _ _

/-- Settles O19: the link is written after the target is computed, and the pc after the link. -/
theorem jumpResults : Obligations.JumpResults := by
  intro s j hj hl ha
  obtain ⟨target, htarget, hexec⟩ := exec_of_isJump hj hl
  rw [← htarget] at ha
  rw [jumpLink_of_aligned ha] at hexec
  refine ⟨_, hexec, (congrArg _ (jump_pc_toNat s _ target)).trans htarget, onlyX_jump (onlyX_wrX s _ _) target,
    fun hrd => ?_⟩
  rw [State.rdX_congr _ _ _ _ (State.jump_x _ target), State.rdX_wrX_same _ _ _ s.w_le hrd, nextPc_eq_seqPc]

/-! ## Branches -/

theorem rdX_eq_iff (s : State) (r₁ r₂ : Reg) : s.rdX s.w r₁ = s.rdX s.w r₂ ↔ xu s r₁ = xu s r₂ := by
  rw [xu, xu, Int.ofNat_inj, BitVec.toNat_inj]

theorem rdX_eq_zero_iff (s : State) (r : Reg) : s.rdX s.w r = 0 ↔ xu s r = 0 := by
  rw [← xu_zero s]
  exact rdX_eq_iff s r 0

theorem not_eq_true_iff_ge {b : Bool} {m n : Int} (h : b = true ↔ m < n) : (!b) = true ↔ m ≥ n := by
  rw [Bool.not_eq_true', ← Bool.not_eq_true, h, Int.not_lt]

/-- A live branch is `opBranch` on its condition, to the word of its target. -/
theorem exec_of_isBranch {s : State} {b : Branch} (h : IsBranch s b) (hl : Live b.instr s) :
    ∃ (cond : Bool) (off : BitVec s.w), (cond = true ↔ b.taken) ∧ ((s.rdPc s.w + off).toNat : Int) = b.target ∧
      exec b.instr s = .next (s.opBranch b.len cond off) := by
  cases h with
  | beq rs1 rs2 off => exact ⟨_, _, beq_iff_eq.trans (rdX_eq_iff s rs1 rs2), pc_add_offset_toNat s off, rfl⟩
  | bne rs1 rs2 off => exact ⟨_, _, bne_iff_ne.trans (not_congr (rdX_eq_iff s rs1 rs2)), pc_add_offset_toNat s off, rfl⟩
  | blt rs1 _ off => exact ⟨_, _, rdX_slt_iff s rs1 rfl, pc_add_offset_toNat s off, rfl⟩
  | bge rs1 _ off => exact ⟨_, _, not_eq_true_iff_ge (rdX_slt_iff s rs1 rfl), pc_add_offset_toNat s off, rfl⟩
  | bltu rs1 _ off => exact ⟨_, _, rdX_ult_iff s rs1 rfl, pc_add_offset_toNat s off, rfl⟩
  | bgeu rs1 _ off => exact ⟨_, _, not_eq_true_iff_ge (rdX_ult_iff s rs1 rfl), pc_add_offset_toNat s off, rfl⟩
  | cBeqz rs1 off =>
    rw [← creg_eq_reg3]
    exact ⟨_, _, beq_iff_eq.trans (rdX_eq_zero_iff s _), pc_add_offset_toNat s off, exec_of_live hl rfl⟩
  | cBnez rs1 off =>
    rw [← creg_eq_reg3]
    exact ⟨_, _, bne_iff_ne.trans (not_congr (rdX_eq_zero_iff s _)), pc_add_offset_toNat s off, exec_of_live hl rfl⟩

/-- A taken branch is a jump with a link to x0. -/
theorem exec_of_taken {s : State} {b : Branch} (h : IsBranch s b) (hl : Live b.instr s) (ht : b.taken) :
    ∃ target : BitVec s.w, (target.toNat : Int) = b.target ∧ exec b.instr s = .next (s.jumpLink b.len 0 target) := by
  obtain ⟨cond, off, hcond, htarget, hexec⟩ := exec_of_isBranch h hl
  rw [hcond.2 ht] at hexec
  exact ⟨_, htarget, hexec⟩

theorem exec_of_not_taken {s : State} {b : Branch} (h : IsBranch s b) (hl : Live b.instr s) (ht : ¬b.taken) :
    exec b.instr s = .next (s.advance b.len) := by
  obtain ⟨cond, off, hcond, -, hexec⟩ := exec_of_isBranch h hl
  rwa [Bool.eq_false_iff.2 fun hc => ht (hcond.1 hc)] at hexec

theorem lenOk_of_isBranch {s : State} {b : Branch} (h : IsBranch s b) (hl : Live b.instr s) : LenOk s b.len := by
  cases h with
  | beq | bne | blt | bge | bltu | bgeu => exact .inl rfl
  | cBeqz | cBnez => exact lenOk_half s _ hl.2 (.inl rfl)

theorem isBranch_target_even {s : State} {b : Branch} (h : IsBranch s b) (hp : s.pc.toNat % 2 = 0) :
    b.target % 2 = 0 := by
  cases h <;> exact pc_add_offset_even hp _

/-- Settles O20: a taken branch jumps without a link, one not taken advances without looking at its target. -/
theorem branchResults : Obligations.BranchResults := by
  intro s b hb hl
  refine ⟨fun htaken ha => ?taken, fun hnot => ?notTaken⟩
  case taken =>
    obtain ⟨target, htarget, hexec⟩ := exec_of_taken hb hl htaken
    rw [← htarget] at ha
    rw [jumpLink_of_aligned ha] at hexec
    exact ⟨_, hexec, (congrArg _ (jump_pc_toNat s _ target)).trans htarget, onlyX_jump (onlyX_wrX s 0 _) target⟩
  case notTaken =>
    exact ⟨_, exec_of_not_taken hb hl hnot, advance_pc_eq_seqPc s _, onlyX_jump (onlyX_refl s) _⟩

/-- Settles O21: the target check comes before the link, and with compressed instructions an even target passes it. -/
theorem misalignedTargetTraps : Obligations.MisalignedTargetTraps := by
  intro s
  refine ⟨fun j hj hl => ⟨fun ha => ?jump, fun hlen hp => ?halfJump⟩,
    fun b hb hl => ⟨fun htaken ha => ?branch, fun hlen hp => ?halfBranch⟩⟩
  case jump =>
    obtain ⟨target, htarget, hexec⟩ := exec_of_isJump hj hl
    rw [← htarget] at ha ⊢
    exact traps_of_jumpLink hexec ha
  case halfJump => exact even_target_aligned (lenOk_of_isJump hj hl) hlen (isJump_target_even hj hp)
  case branch =>
    obtain ⟨target, htarget, hexec⟩ := exec_of_taken hb hl htaken
    rw [← htarget] at ha ⊢
    exact traps_of_jumpLink hexec ha
  case halfBranch => exact even_target_aligned (lenOk_of_isBranch hb hl) hlen (isBranch_target_even hb hp)

end Sys2Proof.Machine
end

section
/-! SUPPORT. Memory accesses in the terms of the statements: the bytes of an access and how the port answers it, then each
load and store as `load` or `store` at its effective address. From these the results of loads and of stores (O22, O23) and
their traps (O24). -/

namespace Sys2Proof.Machine

open Sys2Proof.Spec

/-! ## The bytes of an access -/

theorem forall_mem_byteAddrs (s : State) (e : BitVec s.w) (n : Nat) (p : Nat → Prop) :
    (∀ b ∈ byteAddrs e n, p b) ↔ ∀ j < n, p (byteAddr s e.toNat j) := by
  simp only [mem_byteAddrs, byteAddr_natCast]
  exact ⟨fun h j hj => h _ ⟨j, hj, rfl⟩, fun h _ ⟨j, hj, hb⟩ => hb ▸ h j hj⟩

/-- The port answers an access exactly when the memory system fails none of its bytes. -/
theorem portFault_none_iff_allowed (s : State) (k : Access) (e : BitVec s.w) (n : Nat) :
    s.portFault k (byteAddrs e n) = none ↔ Allowed s k e.toNat n := by
  rw [State.portFault_none, forall_mem_byteAddrs]
  rfl

theorem exists_fail_of_portFault {s : State} {k : Access} {as : List Nat} {f : PortFault} (h : s.portFault k as = some f) :
    ∃ b ∈ as, s.verdict k b = .fail f := by
  obtain ⟨b, hb, hf⟩ := List.exists_of_findSome?_eq_some h
  refine ⟨b, hb, ?_⟩
  split at hf
  · next g hg => rw [hg, Option.some.inj hf]
  · cases hf

/-- Where all failing bytes fail alike, so does the access. -/
theorem portFault_of_failsWith {s : State} {k : Access} {e : BitVec s.w} {n : Nat} {f : PortFault}
    (h : FailsWith s k e.toNat n f) : s.portFault k (byteAddrs e n) = some f := by
  obtain ⟨⟨j, hj, hfail⟩, hsame⟩ := h
  cases hp : s.portFault k (byteAddrs e n) with
  | none => exact absurd hfail ((portFault_none_iff_allowed s k e n).1 hp j hj f)
  | some g =>
    obtain ⟨b, hb, hg⟩ := exists_fail_of_portFault hp
    exact congrArg some ((forall_mem_byteAddrs s e n fun b => s.verdict k b = .fail g → g = f).2
      (fun i hi => hsame i hi g) b hb hg)

/-! ## Reading bytes -/

theorem readByte_read (s : State) (a : Nat) : s.readByte .read a = dataByte s a := by
  unfold State.readByte dataByte
  cases s.verdict .read a <;> simp

theorem readLE_append (s : State) (k : Access) (as bs : List Nat) :
    s.readLE k (as ++ bs) = s.readLE k as + 256 ^ as.length * s.readLE k bs := by
  induction as with
  | nil => simp [State.readLE]
  | cons a as ih =>
    rw [List.cons_append, State.readLE, ih, State.readLE, List.length_cons, Nat.pow_succ', Nat.mul_add, Nat.add_assoc,
      Nat.mul_assoc]

theorem byteAddrs_succ (s : State) (e : BitVec s.w) (n : Nat) :
    byteAddrs e (n + 1) = byteAddrs e n ++ [byteAddr s e.toNat n] := by
  simp [byteAddrs, List.range_succ, byteAddr_natCast, BitVec.toNat_add]

/-- The bytes of a data read are its little-endian value. -/
theorem readLE_byteAddrs (s : State) (e : BitVec s.w) (n : Nat) :
    s.readLE .read (byteAddrs e n) = leValue s e.toNat n := by
  induction n with
  | zero => rfl
  | succ n ih =>
    rw [byteAddrs_succ, readLE_append, ih, byteAddrs_length, leValue, ← readByte_read]
    rfl

theorem leValue_lt (s : State) (a : Int) (n : Nat) : leValue s a n < 256 ^ n := by
  induction n with
  | zero => exact Nat.one_pos
  | succ n ih =>
    have hbyte : (dataByte s (byteAddr s a n)).toNat + 1 ≤ 256 := (dataByte s (byteAddr s a n)).isLt
    calc leValue s a n + 256 ^ n * (dataByte s (byteAddr s a n)).toNat
        < 256 ^ n + 256 ^ n * (dataByte s (byteAddr s a n)).toNat := Nat.add_lt_add_right ih _
      _ = 256 ^ n * ((dataByte s (byteAddr s a n)).toNat + 1) := by
          rw [Nat.mul_add, Nat.mul_one, Nat.add_comm]
      _ ≤ 256 ^ (n + 1) := Nat.mul_le_mul_left _ hbyte

theorem two_pow_eight_mul (n : Nat) : 2 ^ (8 * n) = 256 ^ n := Nat.pow_mul 2 8 n

/-- The bits of n bytes read at a are their little-endian value. -/
theorem toNat_ofNat_leValue (s : State) (a : Int) (n : Nat) :
    (BitVec.ofNat (8 * n) (leValue s a n)).toNat = leValue s a n := by
  rw [BitVec.toNat_ofNat, two_pow_eight_mul, Nat.mod_eq_of_lt (leValue_lt s a n)]

/-- The value an integer load makes of its bytes. -/
theorem extend_leValue_eq_ofInt (s : State) (a : Int) (n : Nat) (signed : Bool) :
    (if signed then (BitVec.ofNat (8 * n) (leValue s a n)).signExtend s.w
      else (BitVec.ofNat (8 * n) (leValue s a n)).setWidth s.w) =
      BitVec.ofInt s.w (if signed then ((leValue s a n : Nat) : Int).bmod (256 ^ n) else (leValue s a n : Nat)) := by
  cases signed with
  | true => rw [if_pos rfl, if_pos rfl, BitVec.signExtend, BitVec.toInt_ofNat', two_pow_eight_mul]
  | false =>
    rw [if_neg Bool.false_ne_true, if_neg Bool.false_ne_true, BitVec.ofInt_natCast, ← BitVec.ofNat_toNat,
      toNat_ofNat_leValue]

/-! ## Writing bytes -/

/-- Byte k of the low n bytes of an integer. -/
theorem emod_pow_ediv_pow_emod (v : Int) {k n : Nat} (h : k < n) : v % 256 ^ n / 256 ^ k % 256 = v / 256 ^ k % 256 := by
  obtain ⟨m, rfl⟩ := Nat.exists_eq_add_of_lt h
  have hpow : (256 : Int) ^ (k + m + 1) = 256 ^ k * (256 * 256 ^ m) := by
    rw [Int.pow_succ, Int.pow_add, Int.mul_assoc, Int.mul_comm (256 ^ m)]
  have hv : v % 256 ^ (k + m + 1) = v + 256 ^ k * (256 * -(256 ^ m * (v / 256 ^ (k + m + 1)))) := by
    rw [Int.emod_def, Int.sub_eq_add_neg, Int.mul_neg, Int.mul_neg, ← Int.mul_assoc 256, ← Int.mul_assoc (256 ^ k), ← hpow]
  rw [hv, Int.add_mul_ediv_left _ _ (Int.ne_of_gt (Int.pow_pos (by decide))), Int.add_mul_emod_self_left]

theorem ofInt_byte (v : Int) {k n : Nat} (h : k < n) :
    ((BitVec.ofNat 8 ((BitVec.ofInt (8 * n) v).toNat / 256 ^ k)).toNat : Int) = v / 256 ^ k % 256 := by
  rw [BitVec.toNat_ofNat, Int.natCast_emod, Int.natCast_ediv, toNat_ofInt_eq_emod, two_pow_eight_mul,
    Int.natCast_pow 256 n, Int.natCast_pow 256 k]
  exact emod_pow_ediv_pow_emod v h

theorem State.memWrite_ok_iff (s t : State) {w n : Nat} (a : BitVec w) (v : BitVec (8 * n)) :
    s.memWrite a n v = .ok t ↔ s.portFault .write (byteAddrs a n) = none ∧
      (s.writeLE (byteAddrs a n) v.toNat).breakResv (byteAddrs a n) = t := by
  unfold State.memWrite
  cases s.portFault .write (byteAddrs a n) <;> simp

/-- What memory holds after a successful write of the low n bytes of an integer. -/
theorem wrote_of_memWrite {s t : State} {e : BitVec s.w} {n : Nat} {v : Int} (hw : s.MemCanonical) (hn : n ≤ 8)
    (h : s.memWrite e n (BitVec.ofInt (8 * n) v) = .ok t) : Wrote s t e.toNat n v := by
  have hsize : 2 ^ 3 ≤ 2 ^ s.w := Nat.pow_le_pow_right (by decide) (Nat.le_trans (by decide) s.w_pos)
  have hnodup : (byteAddrs e n).Nodup := byteAddrs_nodup e n (Nat.le_trans hn hsize)
  obtain ⟨-, rfl⟩ := (s.memWrite_ok_iff t e _).1 h
  refine ⟨fun k hk hram => ?_, fun b hb => ?_⟩
  · have hlen : k < (byteAddrs e n).length := by rwa [byteAddrs_length]
    rw [byteAddr_natCast, ← byteAddrs_getElem e n k hlen] at hram ⊢
    rw [State.breakResv_mem, State.writeLE_read s _ _ k hlen hnodup hw hram, ofInt_byte v hk]
  · refine State.writeLE_read_other s _ _ b fun hmem => ?_
    exact (forall_mem_byteAddrs s e n (b ≠ ·)).2 hb b hmem rfl

/-! ## The effective address of a load or store -/

/-- The effective address in XLEN bits, as the model computes it. -/
def State.opAddr (s : State) (a : MemOp) : BitVec s.w := s.effAddr s.w a.base (BitVec.ofInt s.w a.off)

theorem opAddr_toNat (s : State) (a : MemOp) : ((s.opAddr a).toNat : Int) = a.addr s := effAddr_toNat s a.base a.off

theorem opAddr_setWidth (s : State) (a : MemOp) : (s.opAddr a).setWidth 64 = addrWord s (a.addr s) := by
  rw [setWidth_eq_addrWord, opAddr_toNat]

theorem misalignedTrap_opAddr_iff (s : State) (a : MemOp) :
    s.misalignedTrap (s.opAddr a) a.n = true ↔ ¬AlignedOrEmulated s a := by
  have halign : a.addr s % a.n = 0 ↔ (s.opAddr a).toNat % a.n = 0 := by
    rw [← opAddr_toNat]
    norm_cast
  rw [State.misalignedTrap, AlignedOrEmulated, halign]
  cases s.cfg.misaligned <;> simp

/-! ## Loads -/

theorem load_opAddr_misaligned {s : State} {a : MemOp} (h : ¬AlignedOrEmulated s a) (k : BitVec (8 * a.n) → State) :
    s.load (s.opAddr a) a.n k = s.raise .loadMisaligned (addrWord s (a.addr s)) := by
  have hm := (misalignedTrap_opAddr_iff s a).2 h
  obtain ⟨-, heq⟩ | ⟨hm', -⟩ | ⟨hm', -⟩ := s.load_cases (s.opAddr a) a.n k
  · rw [heq, opAddr_setWidth]
  all_goals exact absurd (hm'.symm.trans hm) Bool.false_ne_true

theorem load_opAddr_fails {s : State} {a : MemOp} {f : PortFault} (ha : AlignedOrEmulated s a)
    (hf : FailsWith s .read (a.addr s) a.n f) (k : BitVec (8 * a.n) → State) :
    s.load (s.opAddr a) a.n k = s.raise (loadFault f) (addrWord s (a.addr s)) := by
  rw [← opAddr_toNat] at hf
  have hport := portFault_of_failsWith hf
  obtain ⟨hm, -⟩ | ⟨-, g, hg, heq⟩ | ⟨-, hnone, -⟩ := s.load_cases (s.opAddr a) a.n k
  · exact absurd ha ((misalignedTrap_opAddr_iff s a).1 hm)
  · obtain rfl : g = f := Option.some.inj (hg.symm.trans hport)
    rw [heq, opAddr_setWidth]
    cases g <;> rfl
  · cases hnone.symm.trans hport

theorem load_opAddr_allowed {s : State} {a : MemOp} (ha : AlignedOrEmulated s a)
    (hal : Allowed s .read (a.addr s) a.n) (k : BitVec (8 * a.n) → State) :
    s.load (s.opAddr a) a.n k = k (BitVec.ofNat (8 * a.n) (leValue s (a.addr s) a.n)) := by
  rw [← opAddr_toNat, ← portFault_none_iff_allowed] at hal
  obtain ⟨hm, -⟩ | ⟨-, g, hg, -⟩ | ⟨-, -, heq⟩ := s.load_cases (s.opAddr a) a.n k
  · exact absurd ha ((misalignedTrap_opAddr_iff s a).1 hm)
  · cases hg.symm.trans hal
  · rw [heq, readLE_byteAddrs, opAddr_toNat]

/-- A live integer load is `load` at its effective address, its bytes extended into rd. -/
theorem exec_of_isLoad {s : State} {a : MemOp} {rd : Reg} {signed : Bool} (h : IsLoad a rd signed) (hl : Live a.instr s) :
    exec a.instr s = .next (s.load (s.opAddr a) a.n fun v =>
      s.result a.len rd (if signed then v.signExtend s.w else v.setWidth s.w)) := by
  cases h with
  | lb | lh | lw | lbu | lhu => rfl
  | ld | lwu => exact exec_of_live hl rfl
  | cLw | cLd | cLwsp | cLdsp =>
    refine exec_of_live hl ?_
    simp only [State.opAddr, ← creg_eq_reg3, ← uimmW_eq_ofInt, ← uimmD_eq_ofInt, ← uimmWsp_eq_ofInt, ← uimmDsp_eq_ofInt]
    rfl

/-- The slot an FP load of n bytes writes: a single boxed (R613), a double whole (R614). -/
def fpSlot {n : Nat} (v : BitVec (8 * n)) : Word := if n = 4 then 0xFFFFFFFF#32 ++ v.setWidth 32 else v.setWidth 64

theorem writeS_eq_wrF_fpSlot (s : State) (rd : Reg) (v : BitVec (8 * 4)) : s.writeS rd v = s.wrF rd (fpSlot v) := by
  rw [State.writeS, fpSlot, if_pos rfl, BitVec.setWidth_eq]

theorem writeD_eq_wrF_fpSlot (s : State) (rd : Reg) (v : BitVec (8 * 8)) : s.writeD rd v = s.wrF rd (fpSlot v) := by
  rw [State.writeD, fpSlot, if_neg (by decide), BitVec.setWidth_eq]

theorem fpSlot_toNat {n : Nat} (hn : n = 4 ∨ n = 8) (v : BitVec (8 * n)) :
    (fpSlot v).toNat = (if n = 4 then 0xFFFFFFFF * 2 ^ 32 else 0) + v.toNat := by
  obtain rfl | rfl := hn
  · rw [fpSlot, if_pos rfl, if_pos rfl, BitVec.toNat_append, BitVec.setWidth_eq,
      ← Nat.shiftLeft_add_eq_or_of_lt v.isLt, Nat.shiftLeft_eq]
    rfl
  · rw [fpSlot, if_neg (by decide), if_neg (by decide), BitVec.setWidth_eq, Nat.zero_add]

theorem size_of_isFpLoad {a : MemOp} {rd : Reg} (h : IsFpLoad a rd) : a.n = 4 ∨ a.n = 8 := by
  cases h with
  | flw | cFlw | cFlwsp => exact .inl rfl
  | fld | cFld | cFldsp => exact .inr rfl

theorem State.opFload_single (s : State) (len : Nat) (rd rs1 : Reg) (imm : BitVec s.w) :
    s.opFload .single len rd rs1 imm =
      s.load (s.effAddr s.w rs1 imm) 4 fun v => (s.wrF rd (fpSlot v)).advance len := by
  simp only [State.opFload, ← writeS_eq_wrF_fpSlot]

theorem State.opFload_double (s : State) (len : Nat) (rd rs1 : Reg) (imm : BitVec s.w) :
    s.opFload .double len rd rs1 imm =
      s.load (s.effAddr s.w rs1 imm) 8 fun v => (s.wrF rd (fpSlot v)).advance len := by
  simp only [State.opFload, ← writeD_eq_wrF_fpSlot]

/-- A live FP load is `load` at its effective address, its bytes put in the slot of rd. -/
theorem exec_of_isFpLoad {s : State} {a : MemOp} {rd : Reg} (h : IsFpLoad a rd) (hl : Live a.instr s) :
    exec a.instr s = .next (s.load (s.opAddr a) a.n fun v => (s.wrF rd (fpSlot v)).advance a.len) := by
  refine exec_of_live hl ?_
  cases h with
  | flw | cFlw | cFlwsp =>
    simp only [State.opAddr, ← creg_eq_reg3, ← uimmW_eq_ofInt, ← uimmWsp_eq_ofInt, ← State.opFload_single]
    rfl
  | fld | cFld | cFldsp =>
    simp only [State.opAddr, ← creg_eq_reg3, ← uimmD_eq_ofInt, ← uimmDsp_eq_ofInt, ← State.opFload_double]
    rfl

/-- Settles O22: no check stops the load, and what it does with its bytes is a result in rd, or a slot of f and FS. -/
theorem loadResults : Obligations.LoadResults := by
  intro s a hl ha hal
  refine ⟨fun rd signed h => ?integer, fun rd h => ?float⟩
  case integer =>
    have hexec := exec_of_isLoad h hl
    rw [load_opAddr_allowed ha hal] at hexec
    exact sets_of_exec hexec (extend_leValue_eq_ofInt s _ _ signed)
  case float =>
    have hexec := exec_of_isFpLoad h hl
    rw [load_opAddr_allowed ha hal] at hexec
    refine ⟨_, hexec, ?_, ?_, fun r hr => ?_, fun b => ?_, rfl⟩
    · rw [State.advance_pc_congr (State.wrF_pc s _ _) (State.wrF_cfg s _ _), advance_pc_eq_seqPc]
    · rw [State.rdF_congr _ _ _ (State.advance_f _ _), State.rdF_wrF_same, fpSlot_toNat (size_of_isFpLoad h),
        toNat_ofNat_leValue]
    · rw [State.rdF_congr _ _ _ (State.advance_f _ _), State.rdF_wrF_other _ _ _ _ hr]
    · rw [State.advance_mem, State.wrF_mem]

/-! ## Stores -/

theorem store_opAddr_misaligned {s : State} {a : MemOp} (h : ¬AlignedOrEmulated s a) (len : Nat)
    (v : BitVec (8 * a.n)) :
    s.store len (s.opAddr a) a.n v = s.raise .storeMisaligned (addrWord s (a.addr s)) := by
  have hm := (misalignedTrap_opAddr_iff s a).2 h
  obtain ⟨-, heq⟩ | ⟨hm', -⟩ | ⟨hm', -⟩ := s.store_cases len (s.opAddr a) a.n v
  · rw [heq, opAddr_setWidth]
  all_goals exact absurd (hm'.symm.trans hm) Bool.false_ne_true

theorem store_opAddr_fails {s : State} {a : MemOp} {f : PortFault} (ha : AlignedOrEmulated s a)
    (hf : FailsWith s .write (a.addr s) a.n f) (len : Nat) (v : BitVec (8 * a.n)) :
    s.store len (s.opAddr a) a.n v = s.raise (storeFault f) (addrWord s (a.addr s)) := by
  rw [← opAddr_toNat] at hf
  have hport := portFault_of_failsWith hf
  obtain ⟨hm, -⟩ | ⟨-, g, hg, heq⟩ | ⟨-, hnone, -⟩ := s.store_cases len (s.opAddr a) a.n v
  · exact absurd ha ((misalignedTrap_opAddr_iff s a).1 hm)
  · obtain rfl : g = f := Option.some.inj (hg.symm.trans hport)
    rw [heq, opAddr_setWidth]
    cases g <;> rfl
  · cases hnone.symm.trans hport

theorem store_opAddr_allowed {s : State} {a : MemOp} (ha : AlignedOrEmulated s a)
    (hal : Allowed s .write (a.addr s) a.n) (len : Nat) (v : BitVec (8 * a.n)) :
    ∃ t, s.memWrite (s.opAddr a) a.n v = .ok t ∧ s.store len (s.opAddr a) a.n v = t.advance len := by
  rw [← opAddr_toNat, ← portFault_none_iff_allowed] at hal
  obtain ⟨hm, -⟩ | ⟨-, g, hg, -⟩ | ⟨-, -, heq⟩ := s.store_cases len (s.opAddr a) a.n v
  · exact absurd ha ((misalignedTrap_opAddr_iff s a).1 hm)
  · cases hg.symm.trans hal
  · exact ⟨_, (s.memWrite_ok_iff _ _ _).2 ⟨hal, rfl⟩, heq⟩

theorem size_of_isStore {s : State} {a : MemOp} {v : Int} (h : IsStore s a v) : a.n ≤ 8 := by
  cases h <;> simp

theorem setWidth_eq_ofInt_toNat {w : Nat} (v : BitVec w) (m : Nat) : v.setWidth m = BitVec.ofInt m v.toNat := by
  rw [BitVec.ofInt_natCast, BitVec.ofNat_toNat]

theorem State.opStore_eq (s : State) (len n : Nat) (rs1 rs2 : Reg) (imm : BitVec s.w) :
    s.opStore len n rs1 rs2 imm = s.store len (s.effAddr s.w rs1 imm) n (BitVec.ofInt (8 * n) (xu s rs2)) := by
  rw [State.opStore, setWidth_eq_ofInt_toNat, xu]

theorem State.opFstore_single (s : State) (len : Nat) (rs1 rs2 : Reg) (imm : BitVec s.w) :
    s.opFstore .single len rs1 rs2 imm =
      s.store len (s.effAddr s.w rs1 imm) 4 (BitVec.ofInt (8 * 4) (s.rdF rs2).toNat) := by
  rw [← setWidth_eq_ofInt_toNat]
  rfl

theorem State.opFstore_double (s : State) (len : Nat) (rs1 rs2 : Reg) (imm : BitVec s.w) :
    s.opFstore .double len rs1 rs2 imm =
      s.store len (s.effAddr s.w rs1 imm) 8 (BitVec.ofInt (8 * 8) (s.rdF rs2).toNat) := by
  rw [← setWidth_eq_ofInt_toNat, BitVec.setWidth_eq]
  rfl

/-- A live store is `store` at its effective address, of the low bytes of its source. -/
theorem exec_of_isStore {s : State} {a : MemOp} {v : Int} (h : IsStore s a v) (hl : Live a.instr s) :
    exec a.instr s = .next (s.store a.len (s.opAddr a) a.n (BitVec.ofInt (8 * a.n) v)) := by
  cases h with
  | sb | sh | sw => simp only [State.opAddr, ← State.opStore_eq]; rfl
  | sd | cSw | cSd | cSwsp | cSdsp =>
    refine exec_of_live hl ?_
    simp only [State.opAddr, ← creg_eq_reg3, ← uimmW_eq_ofInt, ← uimmD_eq_ofInt, ← uimmWsp_eq_ofInt, ← uimmDsp_eq_ofInt,
      ← State.opStore_eq]
    rfl
  | fsw | cFsw | cFswsp =>
    refine exec_of_live hl ?_
    simp only [State.opAddr, ← creg_eq_reg3, ← uimmW_eq_ofInt, ← uimmWsp_eq_ofInt, ← State.opFstore_single]
    rfl
  | fsd | cFsd | cFsdsp =>
    refine exec_of_live hl ?_
    simp only [State.opAddr, ← creg_eq_reg3, ← uimmD_eq_ofInt, ← uimmDsp_eq_ofInt, ← State.opFstore_double]
    rfl

/-- Settles O23: no check stops the store, which is a write of memory and the default advance. -/
theorem storeResults : Obligations.StoreResults := by
  intro s a v hw h hl ha hal
  obtain ⟨t, hwrite, hstore⟩ := store_opAddr_allowed ha hal a.len (BitVec.ofInt (8 * a.n) v)
  have hexec := exec_of_isStore h hl
  rw [hstore] at hexec
  obtain ⟨hcfg, -, -, -, hpc, -⟩ := State.memWrite_fields hwrite
  refine ⟨_, hexec, ?_, ?_, ?_, ?_⟩
  · rw [State.advance_pc_congr hpc hcfg, advance_pc_eq_seqPc]
  · rw [← opAddr_toNat]
    exact (wrote_of_memWrite hw (size_of_isStore h) hwrite : Wrote s t _ _ _)
  · rw [State.advance_resvValid, State.memWrite_resvValid_iff hwrite, opAddr_toNat]
  · exact congrArg (fun u : State => { u with pc := (t.advance a.len).pc }) (State.memWrite_frame s t _ _ _ hwrite)

/-! ## Traps -/

theorem traps_of_exec {i : Instr} {s t : State} {c : Cause} {tval : Word} (h : exec i s = .next t)
    (ht : t = s.raise c tval) : Traps i s c tval :=
  ⟨t, h, ht ▸ trapTaken_raise s c tval⟩

/-- A live load, integer or FP, is `load` at its effective address. -/
theorem exec_of_anyLoad {s : State} {a : MemOp} (h : (∃ rd signed, IsLoad a rd signed) ∨ ∃ rd, IsFpLoad a rd)
    (hl : Live a.instr s) : ∃ k, exec a.instr s = .next (s.load (s.opAddr a) a.n k) := by
  obtain ⟨rd, signed, h⟩ | ⟨rd, h⟩ := h
  · exact ⟨_, exec_of_isLoad h hl⟩
  · exact ⟨_, exec_of_isFpLoad h hl⟩

/-- Settles O24: a load or store that fails one of its two checks raises there, before anything is done with its bytes. -/
theorem memoryAccessTraps : Obligations.MemoryAccessTraps := by
  intro s a hl
  refine ⟨fun h => ?load, fun ⟨v, h⟩ => ?store⟩
  case load =>
    obtain ⟨k, hexec⟩ := exec_of_anyLoad h hl
    exact ⟨fun ha => traps_of_exec hexec (load_opAddr_misaligned ha k),
      fun f ha hf => traps_of_exec hexec (load_opAddr_fails ha hf k)⟩
  case store =>
    have hexec := exec_of_isStore h hl
    exact ⟨fun ha => traps_of_exec hexec (store_opAddr_misaligned ha _ _),
      fun f ha hf => traps_of_exec hexec (store_opAddr_fails ha hf _ _)⟩

end Sys2Proof.Machine
end

section
/-! SUPPORT. Privileged operations in the terms of the statements: what each answer of the external unit makes of the
instruction. From these the ordering instructions (O29) and the trap returns (O31). -/

namespace Sys2Proof.Machine

open Sys2Proof.Spec

/-! ## What each answer makes of a privileged instruction -/

theorem State.privileged_illegal {s : State} {k : PrivKind} (h : s.privAnswer k = .illegal) (i : Instr) :
    s.privileged i k = s.illegal i := by
  rw [State.privileged, h]

theorem State.privileged_proceed {s : State} {k : PrivKind} (h : s.privAnswer k = .proceed) (i : Instr) :
    s.privileged i k = (s.privAfter k).advance 4 := by
  rw [State.privileged, h]

theorem State.privileged_redirect {s : State} {k : PrivKind} {target : Word} (h : s.privAnswer k = .redirect target)
    (hk : k.isReturn = true) (i : Instr) : s.privileged i k = (s.privAfter k).jump (target.setWidth s.w) := by
  rw [State.privileged, h]
  exact if_pos hk

theorem State.privileged_redirect_ignored {s : State} {k : PrivKind} {target : Word}
    (h : s.privAnswer k = .redirect target) (hk : k.isReturn = false) (i : Instr) :
    s.privileged i k = (s.privAfter k).advance 4 := by
  rw [State.privileged, h]
  exact if_neg (Bool.eq_false_iff.1 hk)

theorem State.privAnswer_standard (s : State) (k : PrivKind) (hu : s.cfg.unitKind = .standard) :
    s.privAnswer k = unitPrivAnswer s.cfg s.unit k := by
  rw [State.privAnswer, hu]

theorem State.privAnswer_unspecified (s : State) (k : PrivKind) (hu : s.cfg.unitKind = .unspecified) :
    s.privAnswer k = Config.privAnswer s.draws := by
  rw [State.privAnswer, hu]

/-- A unit that serves PrivOp changes at most itself, FS and the memory map. -/
theorem State.privAfter_frame (s : State) (k : PrivKind) :
    s.privAfter k = { s with unit := (s.privAfter k).unit, fs := (s.privAfter k).fs, map := (s.privAfter k).map } := by
  unfold State.privAfter
  split <;> rfl

theorem trapsIllegal_of_privAnswer {i : Instr} {s : State} {k : PrivKind} (hexec : exec i s = .next (s.privileged i k))
    (h : s.privAnswer k = .illegal) : TrapsIllegal i s :=
  trapsIllegal_of_exec (hexec.trans (congrArg _ (State.privileged_illegal h i)))

theorem goesTo_of_advance {i : Instr} {s : State} {k : PrivKind} (h : exec i s = .next ((s.privAfter k).advance 4)) :
    GoesTo i s (seqPc s 4) := by
  refine ⟨_, h, ?_, fun a => by simp,
    congrArg (fun u : State => { u with pc := ((s.privAfter k).advance 4).pc }) (s.privAfter_frame k)⟩
  rw [State.advance_pc_congr (s := s) (by simp) (by simp), advance_pc_eq_seqPc]

theorem goesTo_of_jump {i : Instr} {s : State} {k : PrivKind} {target : Word}
    (h : exec i s = .next ((s.privAfter k).jump (target.setWidth s.w))) : GoesTo i s (wrap s target.toNat) :=
  ⟨_, h, toNat_slot_eq_wrap s target, fun a => by simp,
    congrArg (fun u : State => u.jump (target.setWidth s.w)) (s.privAfter_frame k)⟩

/-! ## Ordering instructions -/

/-- An instruction that makes the default advance alone writes no register. -/
theorem sets_of_advance {i : Instr} {s : State} (h : exec i s = .next (s.advance 4)) : Sets i s 4 0 0 :=
  ⟨_, h, advance_pc_eq_seqPc s 4, onlyX_jump (onlyX_refl s) _, fun hrd => absurd rfl hrd⟩

/-- Where the standard unit lets WFI or SFENCE.VMA proceed it keeps its registers, so the pc alone moves. -/
theorem sets_of_standard_proceed {i : Instr} {s : State} {k : PrivKind} (hu : s.cfg.unitKind = .standard)
    (hk : k.isReturn = false) (hexec : exec i s = .next (s.privileged i k)) (h : s.privAnswer k = .proceed) :
    Sets i s 4 0 0 := by
  rw [State.privileged_proceed h, State.privAfter_standard _ _ hu, unitPrivAfter_of_not_return _ hk] at hexec
  exact sets_of_advance hexec

/-- WFI and SFENCE.VMA as one: a privileged instruction that is no return. -/
theorem exec_of_isWait {i : Instr} (h : i = .wfi ∨ ∃ rs1 rs2, i = .sfenceVma rs1 rs2) (s : State) :
    ∃ k : PrivKind, k.isReturn = false ∧ exec i s = .next (s.privileged i k) := by
  obtain rfl | ⟨rs1, rs2, rfl⟩ := h
  · exact ⟨.wfi, rfl, rfl⟩
  · exact ⟨.sfenceVma _ _ _ _, rfl, rfl⟩

/-- Settles O29: the fences advance, and WFI and SFENCE.VMA do what the unit's answer makes of them. -/
theorem orderingInstructionsOnlyAdvance : Obligations.OrderingInstructionsOnlyAdvance := by
  refine fun s => ⟨fun _ _ _ _ _ => sets_of_advance rfl, fun _ _ _ => sets_of_advance rfl, fun hu => ?standard,
    fun hu i hi => ?unspecified⟩
  case standard =>
    refine ⟨fun h => sets_of_standard_proceed hu rfl rfl ?_, fun hnu hns _ _ => sets_of_standard_proceed hu rfl rfl ?_,
      fun htw hm => trapsIllegal_of_privAnswer rfl ?_, fun h _ _ => trapsIllegal_of_privAnswer rfl ?_⟩
      <;> rw [State.privAnswer_standard _ _ hu]
    · exact if_neg fun ⟨htw, hm⟩ => hm (h htw)
    · refine if_neg ?_
      rintro (hp | ⟨hp, htvm⟩)
      · exact hnu hp
      · exact absurd htvm (Bool.eq_false_iff.1 (hns hp))
    · exact if_pos ⟨htw, hm⟩
    · exact if_pos h
  case unspecified =>
    obtain ⟨k, hk, hexec⟩ := exec_of_isWait hi s
    have ha := s.privAnswer_unspecified k hu
    cases hans : Config.privAnswer s.draws with
    | illegal => exact trapsIllegal_of_privAnswer hexec (ha.trans hans)
    | redirect target =>
      rw [State.privileged_redirect_ignored (ha.trans hans) hk] at hexec
      exact goesTo_of_advance hexec
    | proceed =>
      rw [State.privileged_proceed (ha.trans hans)] at hexec
      exact goesTo_of_advance hexec

/-! ## Trap returns -/

/-- The exception pc as the unit reads it and returns to it, as a number. -/
theorem maskEpc_toNat (s : State) (epc : Word) :
    (maskEpc s.cfg epc).toNat = epc.toNat / (align s).toNat * (align s).toNat := by
  unfold maskEpc align
  split
  · exact (toNat_and_not epc 1#64).trans (clearBits_one _)
  · exact tvecBase_toNat epc

theorem wrap_maskEpc (s : State) (epc : Word) : wrap s (maskEpc s.cfg epc).toNat = returnPc s epc := by
  have halign : ((align s).toNat : Int) = align s := by
    unfold align
    split <;> rfl
  rw [maskEpc_toNat, returnPc]
  push_cast
  rw [halign]

/-- Where the standard unit redirects a return, the exception pc it saved is the target, and it restores itself. -/
theorem return_of_standard_redirect {i : Instr} {s : State} {k : PrivKind} {epc : Word} {u : TrapUnit}
    (hu : s.cfg.unitKind = .standard) (hk : k.isReturn = true) (hexec : exec i s = .next (s.privileged i k))
    (h : s.privAnswer k = .redirect (maskEpc s.cfg epc)) (hafter : unitPrivAfter s.unit k = u) :
    ∃ t, exec i s = .next t ∧ (t.pc.toNat : Int) = returnPc s epc ∧ t = { s with pc := t.pc, unit := u } := by
  rw [State.privileged_redirect h hk, State.privAfter_standard _ _ hu, hafter] at hexec
  exact ⟨_, hexec, (toNat_slot_eq_wrap s _).trans (wrap_maskEpc s epc), rfl⟩

theorem unitMret_eq (u : TrapUnit) : unitMret u =
    { u with priv := u.mpp, mie := u.mpie, mpie := true, mpp := .user
             mprv := u.mprv && decide (u.mpp = .machine) } := by
  unfold unitMret
  by_cases h : u.mpp = .machine <;> simp [h]

theorem unitSret_eq (u : TrapUnit) : unitSret u =
    { u with priv := if u.spp then .supervisor else .user, sie := u.spie, spie := true, spp := false
             mprv := u.mprv && decide (u.priv ≠ .machine) } := by
  unfold unitSret
  by_cases h : u.priv = .machine <;> simp [h]

/-- SRET is forbidden in U-mode, and in S-mode with TSR set. -/
theorem not_sret_forbidden {u : TrapUnit} (h : u.priv = .machine ∨ (u.priv = .supervisor ∧ u.tsr = false)) :
    ¬(u.priv = .user ∨ (u.priv = .supervisor ∧ u.tsr = true)) := by
  obtain hm | ⟨hs, htsr⟩ := h
  · simp [hm]
  · simp [hs, htsr]

/-- MRET and SRET as one: a privileged instruction that is a return. -/
theorem exec_of_isReturn {i : Instr} (h : i = .mret ∨ i = .sret) (s : State) :
    ∃ k : PrivKind, k.isReturn = true ∧ exec i s = .next (s.privileged i k) := by
  obtain rfl | rfl := h
  · exact ⟨.mret, rfl, rfl⟩
  · exact ⟨.sret, rfl, rfl⟩

/-- Settles O31: the returns do what the unit's answer makes of them. -/
theorem trapReturns : Obligations.TrapReturns := by
  refine fun s => ⟨fun hu => ?standard, fun hu i hi => ?unspecified⟩
  case standard =>
    refine ⟨fun hm => return_of_standard_redirect (k := .mret) hu rfl rfl ?_ (unitMret_eq s.unit),
      fun h => return_of_standard_redirect (k := .sret) hu rfl rfl ?_ (unitSret_eq s.unit),
      fun hm => trapsIllegal_of_privAnswer (k := .mret) rfl ?_,
      fun h => trapsIllegal_of_privAnswer (k := .sret) rfl ?_⟩
      <;> rw [State.privAnswer_standard _ _ hu]
    · exact if_pos hm
    · exact if_neg (not_sret_forbidden h)
    · exact if_neg hm
    · exact if_pos h
  case unspecified =>
    obtain ⟨k, hk, hexec⟩ := exec_of_isReturn hi s
    have ha := s.privAnswer_unspecified k hu
    cases hans : Config.privAnswer s.draws with
    | illegal => exact trapsIllegal_of_privAnswer hexec (ha.trans hans)
    | redirect target =>
      rw [State.privileged_redirect (ha.trans hans) hk] at hexec
      exact goesTo_of_jump hexec
    | proceed =>
      rw [State.privileged_proceed (ha.trans hans)] at hexec
      exact goesTo_of_advance hexec

end Sys2Proof.Machine
end

section
/-! SUPPORT. The standard unit's trap CSRs in the terms of the statements: status words as sums of their fields, masks on
numbers, reads and writes as searches of one list each. From these what every access to the external unit does (O33). -/

namespace Sys2Proof.Machine

open Sys2Proof.Spec

/-! ## Status words are the sums of their fields -/

/-- A value of n bits in its place, from bit i. -/
def fieldAt {n : Nat} (v : BitVec n) (i : Nat) : Word := v.setWidth 64 <<< i

theorem bitAt_eq_fieldAt (b : Bool) (k : Nat) : bitAt b k = fieldAt (BitVec.ofBool b) k := by
  cases b
  · simp [bitAt, fieldAt]
  · rfl

/-- Fields that do not overlap have no bit in common. -/
theorem fieldAt_and_fieldAt {n m : Nat} (v : BitVec n) (u : BitVec m) {i j : Nat} (h : i + n ≤ j ∨ j + m ≤ i) :
    fieldAt v i &&& fieldAt u j = 0#64 := by
  ext k hk
  simp only [fieldAt, BitVec.getElem_and, BitVec.getElem_shiftLeft, BitVec.getElem_zero]
  obtain h | h := h
  · by_cases hj : k < j
    · simp [hj]
    · simp [BitVec.getLsbD_of_ge v (k - i) (by omega)]
  · by_cases hi : k < i
    · simp [hi]
    · simp [BitVec.getLsbD_of_ge u (k - j) (by omega)]

theorem fieldAt_toNat {n : Nat} (v : BitVec n) {i : Nat} (h : n + i ≤ 64) : (fieldAt v i).toNat = v.toNat * 2 ^ i := by
  have hlt : v.toNat * 2 ^ i < 2 ^ 64 := calc
    v.toNat * 2 ^ i < 2 ^ n * 2 ^ i := Nat.mul_lt_mul_of_pos_right v.isLt (Nat.two_pow_pos i)
    _ = 2 ^ (n + i) := (Nat.pow_add 2 n i).symm
    _ ≤ 2 ^ 64 := Nat.pow_le_pow_right (by decide) h
  have hv : v.toNat < 2 ^ 64 := Nat.lt_of_le_of_lt (Nat.le_mul_of_pos_right _ (Nat.two_pow_pos i)) hlt
  rw [fieldAt, BitVec.toNat_shiftLeft, BitVec.toNat_setWidth, Nat.mod_eq_of_lt hv, Nat.shiftLeft_eq,
    Nat.mod_eq_of_lt hlt]

theorem place_eq (b : Bool) (k : Nat) : place b k = (BitVec.ofBool b).toNat * 2 ^ k := by
  cases b <;> simp [place]

theorem fsNum_eq (fs : FS) : fsNum fs = fs.code.toNat := by cases fs <;> rfl

theorem privNum_eq (p : Priv) : privNum p = p.code.toNat := by cases p <;> rfl

/-- A further field, apart from the bits there are, adds its value in its place. -/
theorem toNat_or_fieldAt {n : Nat} {a : Word} (v : BitVec n) {i : Nat} (h : n + i ≤ 64) (ha : a &&& fieldAt v i = 0#64) :
    (a ||| fieldAt v i).toNat = a.toNat + v.toNat * 2 ^ i := by
  rw [← BitVec.add_eq_or_of_and_eq_zero _ _ ha, BitVec.toNat_add_of_and_eq_zero ha, fieldAt_toNat v h]

theorem sstatusWord_eq (cfg : Config) (u : TrapUnit) (fs : FS) : sstatusWord cfg u fs =
    fieldAt (BitVec.ofBool u.sie) 1 ||| fieldAt (BitVec.ofBool u.spie) 5 ||| fieldAt (BitVec.ofBool u.spp) 8 |||
      fieldAt fs.code 13 ||| fieldAt (BitVec.ofBool u.sum) 18 ||| fieldAt (BitVec.ofBool u.mxr) 19 |||
      fieldAt (BitVec.ofBool (decide (fs = .dirty))) (cfg.xlen.bits - 1) |||
      fieldAt (BitVec.ofBool (decide (cfg.xlen = .rv64))) 33 := by
  simp only [sstatusWord, bitAt_eq_fieldAt, Bool.beq_eq_decide_eq]
  rfl

/-- The fields lie apart whichever bit SD has, so each adds its value in its place. -/
theorem sstatusWord_toNat (s : State) : (sstatusWord s.cfg s.unit s.fs).toNat = sstatusNum s := by
  rw [sstatusWord_eq, sstatusNum, State.w]
  cases s.cfg.xlen <;>
    simp only [XLen.bits, toNat_or_fieldAt, fieldAt_toNat, place_eq, fsNum_eq, BitVec.and_or_distrib_right,
      fieldAt_and_fieldAt, BitVec.or_zero, Nat.reduceAdd, Nat.reduceSub, Nat.reduceLeDiff, or_true, true_or]

theorem mstatusWord_eq (cfg : Config) (u : TrapUnit) (fs : FS) : mstatusWord cfg u fs =
    sstatusWord cfg u fs ||| fieldAt (BitVec.ofBool u.mie) 3 ||| fieldAt (BitVec.ofBool u.mpie) 7 |||
      fieldAt u.mpp.code 11 ||| fieldAt (BitVec.ofBool u.mprv) 17 ||| fieldAt (BitVec.ofBool u.tvm) 20 |||
      fieldAt (BitVec.ofBool u.tw) 21 ||| fieldAt (BitVec.ofBool u.tsr) 22 |||
      fieldAt (BitVec.ofBool (decide (cfg.xlen = .rv64))) 35 := by
  simp only [mstatusWord, bitAt_eq_fieldAt, Bool.beq_eq_decide_eq]
  rfl

theorem mstatusWord_toNat (s : State) : (mstatusWord s.cfg s.unit s.fs).toNat = mstatusNum s := by
  rw [mstatusWord_eq, mstatusNum, ← sstatusWord_toNat, sstatusWord_eq]
  cases s.cfg.xlen <;>
    simp only [XLen.bits, toNat_or_fieldAt, place_eq, privNum_eq, BitVec.and_or_distrib_right, fieldAt_and_fieldAt,
      BitVec.or_zero, Nat.reduceAdd, Nat.reduceSub, Nat.reduceLeDiff, or_true, true_or]

/-! ## Masks on numbers -/

theorem ofNat_clearBits (v : Word) (m : Nat) : BitVec.ofNat 64 (clearBits v.toNat m) = v &&& ~~~BitVec.ofNat 64 m := by
  rw [clearBits, BitVec.ofNat_xor, BitVec.ofNat_and, BitVec.ofNat_toNat, BitVec.setWidth_eq]
  ext k hk
  cases hv : v[k] <;> simp [hv]

theorem merged_eq_mergeBits (old v : Word) (m : Nat) : merged old m v.toNat = mergeBits old (BitVec.ofNat 64 m) v := by
  rw [merged, BitVec.ofNat_or, ofNat_clearBits, BitVec.ofNat_and, BitVec.ofNat_toNat, BitVec.setWidth_eq]
  rfl

theorem mppOf_eq (v : Word) (old : Priv) : mppOf (v.extractLsb' 11 2) old =
    if v.toNat / 2 ^ 11 % 4 = 0 then .user else if v.toNat / 2 ^ 11 % 4 = 1 then .supervisor
      else if v.toNat / 2 ^ 11 % 4 = 3 then .machine else old := by
  have h : (v.extractLsb' 11 2).toNat = v.toNat / 2 ^ 11 % 4 := by
    rw [BitVec.extractLsb'_toNat, Nat.shiftRight_eq_div_pow]
  simp only [mppOf, ← BitVec.toNat_inj, h]
  rfl

theorem fsNum_ofCode (c : BitVec 2) : fsNum (FS.ofCode c) = c.toNat := by
  revert c
  decide

/-! ## The trap CSRs as one list -/

theorem lookup_cons_eq_ite {α β : Type} [DecidableEq α] (l : List (α × β)) (a k : α) (b : β) :
    ((k, b) :: l).lookup a = if a = k then some b else l.lookup a := by
  by_cases h : a = k
  · rw [if_pos h, h, List.lookup_cons_self]
  · rw [if_neg h, List.lookup_cons, beq_false_of_ne h]

/-- A CSR's read value is found in the list of held CSRs, and no value for a number the list does not have. -/
theorem unitCsrRead_toNat (s : State) (csr : BitVec 12) :
    (unitCsrRead s.cfg s.fs s.unit csr).map BitVec.toNat = (heldCsrs s).lookup csr := by
  simp only [unitCsrRead, heldCsrs, lookup_cons_eq_ite, List.lookup_nil, apply_ite (Option.map BitVec.toNat),
    Option.map_some, Option.map_none, mstatusWord_toNat, sstatusWord_toNat, maskEpc_toNat, BitVec.toNat_and]

/-- A write leaves what the list of written CSRs says, and the unit as it was for a number the list does not have. -/
theorem unitCsrWrite_eq (u : TrapUnit) (csr : BitVec 12) (v : Word) :
    unitCsrWrite u csr v = ((writtenCsrs u v.toNat).lookup csr).getD u := by
  simp only [unitCsrWrite, writtenCsrs, lookup_cons_eq_ite, List.lookup_nil, apply_ite (Option.getD · u),
    Option.getD_some, Option.getD_none, writeMstatus, mppOf_eq, BitVec.ofNat_and, ofNat_clearBits, merged_eq_mergeBits,
    BitVec.ofNat_toNat, BitVec.setWidth_eq]
  rfl

theorem mem_of_lookup_eq_some {α β : Type} [DecidableEq α] {l : List (α × β)} {a : α} {b : β}
    (h : l.lookup a = some b) : (a, b) ∈ l := by
  obtain ⟨l₁, l₂, rfl, -⟩ := List.lookup_eq_some_iff.1 h
  simp

theorem lookup_eq_some_of_mem {α β : Type} [DecidableEq α] {l : List (α × β)} {a : α} {b : β}
    (hn : (l.map Prod.fst).Nodup) (h : (a, b) ∈ l) : l.lookup a = some b := by
  obtain ⟨l₁, l₂, rfl⟩ := List.append_of_mem h
  refine List.lookup_eq_some_iff.2 ⟨l₁, l₂, rfl, fun p hp => ?_⟩
  rw [List.map_append, List.map_cons, List.nodup_append] at hn
  obtain ⟨-, -, hdisj⟩ := hn
  exact bne_iff_ne.2 (hdisj _ (List.mem_map_of_mem hp) _ List.mem_cons_self).symm

theorem heldCsrs_nodup (s : State) : ((heldCsrs s).map Prod.fst).Nodup := by
  simp only [heldCsrs, List.map]
  decide

theorem map_fst_writtenCsrs (s : State) (u : TrapUnit) (v : Nat) :
    (writtenCsrs u v).map Prod.fst = (heldCsrs s).map Prod.fst := rfl

/-- A trap CSR of the list is one the unit reads, as the value in the list. -/
theorem exists_unitCsrRead_of_held {s : State} {csr : BitVec 12} {v : Nat} (h : (csr, v) ∈ heldCsrs s) :
    ∃ old, unitCsrRead s.cfg s.fs s.unit csr = some old ∧ old.toNat = v :=
  Option.map_eq_some_iff.1 ((unitCsrRead_toNat s csr).trans (lookup_eq_some_of_mem (heldCsrs_nodup s) h))

theorem unitCsrRead_eq_none {s : State} {csr : BitVec 12} (h : ∀ v, (csr, v) ∉ heldCsrs s) :
    unitCsrRead s.cfg s.fs s.unit csr = none := by
  cases hr : unitCsrRead s.cfg s.fs s.unit csr with
  | none => rfl
  | some old =>
    have hmap := unitCsrRead_toNat s csr
    rw [hr] at hmap
    exact absurd (mem_of_lookup_eq_some hmap.symm) (h _)

theorem unitCsrWrite_mem {s : State} {csr : BitVec 12} {n : Nat} (h : (csr, n) ∈ heldCsrs s) (v : Word) :
    (csr, unitCsrWrite s.unit csr v) ∈ writtenCsrs s.unit v.toNat := by
  have hnum : csr ∈ (writtenCsrs s.unit v.toNat).map Prod.fst := List.mem_map_of_mem (f := Prod.fst) h
  obtain ⟨⟨c, u⟩, hmem, rfl⟩ := List.mem_map.1 hnum
  rw [unitCsrWrite_eq, lookup_eq_some_of_mem (map_fst_writtenCsrs s s.unit v.toNat ▸ heldCsrs_nodup s) hmem]
  exact hmem

/-- FS after a write: bits 14:13 of what is written to mstatus or sstatus, else as it was. -/
theorem fsAfterWrite_spec (fs : FS) (csr : BitVec 12) (v : Word) :
    if csr = 0x300 ∨ csr = 0x100 then fsNum (fsAfterWrite fs csr v) = v.toNat / 2 ^ 13 % 4
      else fsAfterWrite fs csr v = fs := by
  unfold fsAfterWrite
  split
  · rw [fsNum_ofCode, BitVec.extractLsb'_toNat, Nat.shiftRight_eq_div_pow]
  · rfl

/-- The block's own CSRs are none of the unit's. -/
theorem not_isFpCsr_of_unitCsrRead {cfg : Config} {fs : FS} {u : TrapUnit} {csr : BitVec 12} {old : Word}
    (h : unitCsrRead cfg fs u csr = some old) : isFpCsr csr = false := by
  refine Bool.eq_false_iff.2 fun hf => ?_
  have hmode := mode_of_unitCsrRead h
  obtain rfl | rfl | rfl := (isFpCsr_iff csr).1 hf <;> exact absurd hmode (by decide)

/-! ## What an access makes of a CSR instruction -/

theorem State.csrInstr_of_access {s u : State} {csr : BitVec 12} {newOf : BitVec s.w → BitVec s.w} {r d : Bool}
    {old : BitVec s.w} (hb : isFpCsr csr = false) (h : s.csrAccess csr newOf r d = some (old, u)) (i : Instr) (rd : Reg) :
    s.csrInstr i rd csr newOf r d = u.result 4 rd old := by
  rw [State.csrInstr, h, hb]
  rfl

theorem State.csrInstr_of_refusal {s : State} {csr : BitVec 12} {newOf : BitVec s.w → BitVec s.w} {r d : Bool}
    (hb : isFpCsr csr = false) (h : s.csrAccess csr newOf r d = none) (i : Instr) (rd : Reg) :
    s.csrInstr i rd csr newOf r d = s.illegal i := by
  rw [State.csrInstr, h, hb]
  rfl

/-- A permitted access to a CSR the standard unit holds. -/
theorem State.csrAccess_held {s : State} {csr : BitVec 12} {old : Word} (hu : s.cfg.unitKind = .standard) {d : Bool}
    (hf : csrForbidden s.unit csr d = false) (hr : unitCsrRead s.cfg s.fs s.unit csr = some old)
    (newOf : BitVec s.w → BitVec s.w) (r : Bool) :
    s.csrAccess csr newOf r d = some (if r then old.setWidth s.w else 0,
      if d then { s with unit := unitCsrWrite s.unit csr ((newOf (old.setWidth s.w)).setWidth 64)
                         fs := fsAfterWrite s.fs csr ((newOf (old.setWidth s.w)).setWidth 64) } else s) := by
  simp [State.csrAccess, hu, hf, hr]

/-- A CSR instruction that does not write its CSR reads it. -/
theorem reads_of_not_writes {s : State} {o : CsrOp} (h : IsCsr s o) (hw : ¬o.writes) : o.reads := by
  cases h with
  | rw => exact absurd trivial hw
  | rwi => exact absurd trivial hw
  | _ => trivial

theorem writesX_of_wrap_eq {s t : State} {rd : Reg} {v v' : Int} (h : WritesX s t rd v) (hv : wrap s v = wrap s v') :
    WritesX s t rd v' := by
  obtain ⟨hsame, hrest⟩ := h
  exact ⟨fun hrd => (hsame hrd).trans hv, hrest⟩

theorem wrap_setWidth (s : State) (v : Word) : wrap s (v.setWidth s.w).toNat = wrap s v.toNat := by
  rw [← toNat_slot_eq_wrap, State.toNat_slot, wrap]
  exact Int.emod_eq_of_lt (Int.natCast_nonneg _) (by exact_mod_cast (v.setWidth s.w).isLt)

/-- A CSR instruction whose access is answered puts the old value in rd where it reads, and leaves the rest to the answer. -/
theorem csrCompletes_of_access {s u : State} {o : CsrOp} (ho : IsCsr s o) {newOf : BitVec s.w → BitVec s.w} {r d : Bool}
    (hexec : exec o.instr s = .next (s.csrInstr o.instr o.rd o.csr newOf r d)) (hr : r = true ↔ o.reads)
    (hb : isFpCsr o.csr = false) {old : Word}
    (ha : s.csrAccess o.csr newOf r d = some (if r then old.setWidth s.w else 0, u)) {frame : State → Prop}
    (hframe : ∀ x pc, frame { u with x := x, pc := pc }) : CsrCompletes o s old.toNat frame := by
  have hu := s.csrAccess_frame u _ _ _ _ _ ha
  have hx : u.x = s.x := by rw [hu]
  rw [State.csrInstr_of_access hb ha] at hexec
  refine ⟨_, hexec, ?_, fun hreads => ?_, fun hno => ?_, fun a => ?_, ?_⟩
  · rw [State.result_pc_congr (s := s) (by rw [hu]) (by rw [hu]), advance_pc_eq_seqPc]
  · rw [if_pos (hr.2 hreads)]
    exact writesX_of_wrap_eq (writesX_result hx 4 o.rd _ fun _ => rfl) (wrap_setWidth s old)
  · rw [State.result_x, State.wrX_x, if_pos (rd_of_not_reads ho hno), hx]
  · rw [State.result_mem, hu]
  · obtain ⟨x, pc, hres⟩ := u.result_frame 4 o.rd (if r then old.setWidth s.w else 0)
    rw [hres]
    exact hframe x pc

/-- Settles O33: the unit's answer to the access, held, known to it alone or unspecified, is what the instruction completes
with. -/
theorem externalCsrResults : Obligations.ExternalCsrResults := by
  intro s o ho
  obtain ⟨newOf, r, d, hexec, hr, hd, hnew⟩ := exec_of_isCsr ho
  have hfp (hb : ¬OfBlock o) : isFpCsr o.csr = false := Bool.eq_false_iff.2 fun h => hb ((isFpCsr_iff _).1 h)
  have hrefused (hb : isFpCsr o.csr = false) (ha : s.csrAccess o.csr newOf r d = none) : TrapsIllegal o.instr s :=
    trapsIllegal_of_exec (hexec.trans (congrArg _ (State.csrInstr_of_refusal hb ha _ _)))
  refine ⟨fun hu hp => ?standard, fun hu hb => ?unspecified⟩
  case standard =>
    have hf : csrForbidden s.unit o.csr d = false := Bool.eq_false_iff.2 fun h => (csrForbidden_iff s o d hd).1 h hp
    refine ⟨fun v hv => ?held, fun hb hn => ?unknown⟩
    case held =>
      obtain ⟨old, hread, rfl⟩ := exists_unitCsrRead_of_held hv
      have hb := not_isFpCsr_of_unitCsrRead hread
      have ha := State.csrAccess_held hu hf hread newOf r
      refine ⟨fun hno => ?_, fun hw => ?_⟩
      · rw [State.csrInstr_of_access hb ha, if_pos (hr.2 (reads_of_not_writes ho hno)), if_neg (mt hd.1 hno)] at hexec
        exact sets_of_exec hexec (by rw [BitVec.ofInt_natCast, BitVec.ofNat_toNat])
      · rw [if_pos (hd.2 hw)] at ha
        have hval : ((newOf (old.setWidth s.w)).setWidth 64).toNat = o.newOf (old.toNat % 2 ^ s.w) % 2 ^ s.w := by
          rw [State.toNat_slot, ← Nat.mod_eq_of_lt (newOf _).isLt, hnew, BitVec.toNat_setWidth]
        refine csrCompletes_of_access ho hexec hr hb ha fun x pc => ⟨?_, ?_, rfl⟩ <;> rw [← hval]
        · exact unitCsrWrite_mem hv _
        · exact fsAfterWrite_spec _ _ _
    case unknown =>
      have ha := s.csrAccess_unknown o.csr newOf r d hu hf (unitCsrRead_eq_none hn)
      cases hans : Config.csrAnswer s.draws o.csr with
      | none => exact hrefused (hfp hb) (by rw [ha, hans])
      | some old => exact csrCompletes_of_access ho hexec hr (hfp hb) (ha.trans (by rw [hans])) fun _ _ => rfl
  case unspecified =>
    have ha := s.csrAccess_unspecified o.csr newOf r d hu
    cases hans : Config.csrAnswer s.draws o.csr with
    | none => exact hrefused (hfp hb) (by rw [ha, hans])
    | some old =>
      exact csrCompletes_of_access (u := s.unitServes) ho hexec hr (hfp hb)
        (ha.trans (by rw [hans])) fun _ _ => rfl

end Sys2Proof.Machine
end

section
/-! SUPPORT. The M extension in the terms of the statements: products as products of integers (O17), and each divide and
remainder as a quotient and remainder of integers, the corner cases included (O18). -/

namespace Sys2Proof.Machine

open Sys2Proof.Spec

/-- An instruction of the M extension that every XLEN has is live where the configuration has M. -/
theorem live_of_mEn {i : Instr} {s : State} (hm : s.cfg.mEn = true) (hx : i.row.xlen = none) (he : i.row.ext = .m)
    (hw : i.wf = true) (hsh : i.shamtOk s.cfg.xlen = true) : Live i s :=
  ⟨hw, (enabled_iff _ _).2 ⟨.inl hx, he ▸ hm, hsh⟩⟩

/-! ## Products -/

theorem rdX_mul_eq_ofInt (s : State) (r₁ r₂ : Reg) : s.rdX s.w r₁ * s.rdX s.w r₂ =
    BitVec.ofInt s.w (xs s r₁ * xs s r₂) := by
  rw [BitVec.ofInt_mul, ofInt_xs, ofInt_xs]

theorem low32_rdX_eq_ofInt (s : State) (r : Reg) : low32 (s.rdX s.w r) = BitVec.ofInt 32 (xu s r) := by
  rw [← ofInt_xu, low32_eq_ofInt s.w_pos]

theorem mulw_eq_ofInt (s : State) (r₁ r₂ : Reg) :
    sext32 s.w (low32 (s.rdX s.w r₁) * low32 (s.rdX s.w r₂)) = BitVec.ofInt s.w (sext32Int (xu s r₁ * xu s r₂)) := by
  rw [low32_rdX_eq_ofInt, low32_rdX_eq_ofInt, ← BitVec.ofInt_mul, sext32_ofInt]

/-- Settles O17: a register is the word of its integer, so products of words are those of integers; a high part is the
floored quotient by 2^XLEN by definition. -/
theorem productResults : Obligations.ProductResults := by
  intro s rd rs1 rs2 hm
  have hlive {i : Instr} := live_of_mEn (i := i) hm
  exact ⟨sets_of_live (hlive rfl rfl rfl rfl) rfl (rdX_mul_eq_ofInt s rs1 rs2),
    sets_of_live (hlive rfl rfl rfl rfl) rfl rfl,
    sets_of_live (hlive rfl rfl rfl rfl) rfl rfl,
    sets_of_live (hlive rfl rfl rfl rfl) rfl rfl,
    fun hs => sets_of_live (live_of_rv64 hs rfl hm rfl) rfl (mulw_eq_ofInt s rs1 rs2)⟩

/-! ## Quotients and remainders -/

/-- Division that truncates gives a remainder with the sign of the dividend. -/
theorem quotRem_tdiv_tmod (a : Int) {b : Int} (hb : b ≠ 0) : QuotRem a b (a.tdiv b) (a.tmod b) := by
  refine ⟨(Int.mul_tdiv_add_tmod a b).symm, ?_, ?_⟩
  · rw [Int.natAbs_tmod]
    exact Nat.mod_lt _ (Int.natAbs_pos.2 hb)
  · rw [Int.sign_tmod]
    by_cases hdvd : b ∣ a
    · exact .inl (Int.tmod_eq_zero_of_dvd hdvd)
    · exact .inr (if_neg hdvd)

theorem eq_zero_iff_toInt {w : Nat} (b : BitVec w) : b = 0 ↔ b.toInt = 0 := by simp [← BitVec.toInt_inj]

theorem eq_zero_iff_toNat {w : Nat} (b : BitVec w) : b = 0 ↔ (b.toNat : Int) = 0 := by simp [← BitVec.toNat_inj]

theorem allOnes_toInt {w : Nat} (hw : 0 < w) : (BitVec.allOnes w).toInt = -1 := by
  rw [BitVec.toInt_allOnes, if_pos hw]

theorem allOnes_toNat (w : Nat) : ((BitVec.allOnes w).toNat : Int) = 2 ^ w - 1 := by
  rw [BitVec.toNat_allOnes, Int.natCast_sub Nat.one_le_two_pow, Int.natCast_pow]
  rfl

/-- The operands whose signed quotient does not fit. -/
theorem overflow_iff_toInt {w : Nat} (hw : 0 < w) (a b : BitVec w) :
    a = BitVec.intMin w ∧ b = BitVec.allOnes w ↔ a.toInt = -2 ^ (w - 1) ∧ b.toInt = -1 := by
  rw [← BitVec.toInt_inj, ← BitVec.toInt_inj, BitVec.toInt_intMin_of_pos hw, allOnes_toInt hw]

theorem ofInt_toNat_self {w : Nat} (v : BitVec w) : BitVec.ofInt w v.toNat = v := by
  rw [BitVec.ofInt_natCast, BitVec.ofNat_toNat, BitVec.setWidth_eq]

/-- Signed division at every width, by the cases of R531: divisor 0, overflow, and the rest. -/
theorem exists_signedDiv {w : Nat} (hw : 0 < w) (a b : BitVec w) : ∃ q r, SignedDiv w a.toInt b.toInt q r ∧
    divSigned a b = BitVec.ofInt w q ∧ remSigned a b = BitVec.ofInt w r := by
  by_cases hzero : b = 0
  · have hb := (eq_zero_iff_toInt b).1 hzero
    refine ⟨-1, a.toInt, ⟨fun _ => ⟨rfl, rfl⟩, fun _ hone => ?_, fun hne => absurd hb hne⟩, ?_, ?_⟩
    · rw [hb] at hone
      contradiction
    · rw [divSigned, if_pos hzero, ← allOnes_toInt hw, BitVec.ofInt_toInt]
    · rw [remSigned, if_pos hzero, BitVec.ofInt_toInt]
  have hb := mt (eq_zero_iff_toInt b).2 hzero
  by_cases hover : a = BitVec.intMin w ∧ b = BitVec.allOnes w
  · refine ⟨a.toInt, 0, ⟨fun h => absurd h hb, fun _ _ => ⟨rfl, rfl⟩,
      fun _ hno => absurd ((overflow_iff_toInt hw a b).1 hover) hno⟩, ?_, ?_⟩
    · rw [divSigned, if_neg hzero, if_pos hover, BitVec.ofInt_toInt]
    · rw [remSigned, if_neg hzero, if_pos hover]
      rfl
  · refine ⟨a.toInt.tdiv b.toInt, a.toInt.tmod b.toInt, ⟨fun h => absurd h hb,
      fun ha hone => absurd ((overflow_iff_toInt hw a b).2 ⟨ha, hone⟩) hover, fun _ _ => quotRem_tdiv_tmod _ hb⟩, ?_, ?_⟩
    · rw [divSigned, if_neg hzero, if_neg hover]
    · rw [remSigned, if_neg hzero, if_neg hover, Int.tmod_def]

/-- Unsigned division at every width, by the cases of R531: divisor 0, and the rest. -/
theorem exists_unsignedDiv {w : Nat} (a b : BitVec w) : ∃ q r, UnsignedDiv w a.toNat b.toNat q r ∧
    divUnsigned a b = BitVec.ofInt w q ∧ remUnsigned a b = BitVec.ofInt w r := by
  by_cases hzero : b = 0
  · have hb := (eq_zero_iff_toNat b).1 hzero
    refine ⟨2 ^ w - 1, a.toNat, ⟨fun _ => ⟨rfl, rfl⟩, fun hne => absurd hb hne⟩, ?_, ?_⟩
    · rw [divUnsigned, if_pos hzero, ← allOnes_toNat, ofInt_toNat_self]
    · rw [remUnsigned, if_pos hzero, ofInt_toNat_self]
  · have hb := mt (eq_zero_iff_toNat b).2 hzero
    refine ⟨_, _, ⟨fun h => absurd h hb, fun _ => quotRem_tdiv_tmod _ hb⟩, ?_, ?_⟩
    · rw [divUnsigned, if_neg hzero, ← Int.ofNat_tdiv, BitVec.ofInt_natCast]
    · rw [remUnsigned, if_neg hzero, ← Int.ofNat_tmod, BitVec.ofInt_natCast]

theorem sext32_eq_ofInt (w : Nat) {v : BitVec 32} {n : Int} (h : v = BitVec.ofInt 32 n) :
    sext32 w v = BitVec.ofInt w (sext32Int n) := by
  rw [h, sext32_ofInt]

/-- Settles O18: the quotient and remainder of the words, at width XLEN or 32, are those of the integers they stand for. -/
theorem divisionResults : Obligations.DivisionResults := by
  intro s rd rs1 rs2 hm
  have hlive {i : Instr} := live_of_mEn (i := i) hm
  refine ⟨?signed, ?unsigned, fun hs => ⟨?signedW, ?unsignedW⟩⟩
  case signed =>
    obtain ⟨q, r, hdiv, hq, hr⟩ := exists_signedDiv (Nat.lt_of_lt_of_le (by decide) s.w_pos) (s.rdX s.w rs1) (s.rdX s.w rs2)
    exact ⟨q, r, hdiv, sets_of_live (hlive rfl rfl rfl rfl) rfl hq, sets_of_live (hlive rfl rfl rfl rfl) rfl hr⟩
  case unsigned =>
    obtain ⟨q, r, hdiv, hq, hr⟩ := exists_unsignedDiv (s.rdX s.w rs1) (s.rdX s.w rs2)
    exact ⟨q, r, hdiv, sets_of_live (hlive rfl rfl rfl rfl) rfl hq, sets_of_live (hlive rfl rfl rfl rfl) rfl hr⟩
  case signedW =>
    obtain ⟨q, r, hdiv, hq, hr⟩ := exists_signedDiv (by decide) (low32 (s.rdX s.w rs1)) (low32 (s.rdX s.w rs2))
    rw [low32_toInt, low32_toInt] at hdiv
    exact ⟨q, r, hdiv, sets_of_live (live_of_rv64 hs rfl hm rfl) rfl (sext32_eq_ofInt _ hq),
      sets_of_live (live_of_rv64 hs rfl hm rfl) rfl (sext32_eq_ofInt _ hr)⟩
  case unsignedW =>
    obtain ⟨q, r, hdiv, hq, hr⟩ := exists_unsignedDiv (low32 (s.rdX s.w rs1)) (low32 (s.rdX s.w rs2))
    rw [low32_toNat, low32_toNat] at hdiv
    exact ⟨q, r, hdiv, sets_of_live (live_of_rv64 hs rfl hm rfl) rfl (sext32_eq_ofInt _ hq),
      sets_of_live (live_of_rv64 hs rfl hm rfl) rfl (sext32_eq_ofInt _ hr)⟩

end Sys2Proof.Machine
end

section
/-! SUPPORT. The A extension in the terms of the statements: how the port answers an access and when an SC succeeds, then
each of LR, SC and AMO by the check that stops it or by what it does. From these the results of LR, SC and AMO (O25 to O27)
and their traps (O28); and what a write of another agent does to the reservation (O59). -/

namespace Sys2Proof.Machine

open Sys2Proof.Spec

/-! ## The port's answer -/

theorem memRead_of_allowed {s : State} {e : BitVec s.w} {n : Nat} (h : Allowed s .read e.toNat n) :
    s.memRead e n = .ok (BitVec.ofNat (8 * n) (leValue s e.toNat n)) := by
  rw [State.memRead, (portFault_none_iff_allowed s .read e n).2 h, readLE_byteAddrs]

theorem memRead_of_failsWith {s : State} {e : BitVec s.w} {n : Nat} {f : PortFault}
    (h : FailsWith s .read e.toNat n f) : s.memRead e n = .error f := by
  rw [State.memRead, portFault_of_failsWith h]

theorem exists_memWrite_of_allowed {s : State} {e : BitVec s.w} {n : Nat} (h : Allowed s .write e.toNat n)
    (v : BitVec (8 * n)) : ∃ t, s.memWrite e n v = .ok t :=
  ⟨_, (s.memWrite_ok_iff _ e v).2 ⟨(portFault_none_iff_allowed s .write e n).2 h, rfl⟩⟩

theorem memWrite_of_failsWith {s : State} {e : BitVec s.w} {n : Nat} {f : PortFault}
    (h : FailsWith s .write e.toNat n f) (v : BitVec (8 * n)) : s.memWrite e n v = .error f := by
  rw [State.memWrite, portFault_of_failsWith h]

theorem faultCause_read (f : PortFault) : faultCause .read f = loadFault f := by cases f <;> rfl

theorem faultCause_write (f : PortFault) : faultCause .write f = storeFault f := by cases f <;> rfl

/-! ## The address of an atomic -/

theorem rdX_setWidth_eq_addrWord (s : State) (r : Reg) : (s.rdX s.w r).setWidth 64 = addrWord s (xu s r) :=
  setWidth_eq_addrWord s (s.rdX s.w r)

theorem unaligned_rdX_iff (s : State) (r : Reg) (n : Nat) : unaligned (s.rdX s.w r) n = true ↔ xu s r % n ≠ 0 := by
  rw [unaligned, decide_eq_true_iff, xu, ← Int.natCast_emod, ne_eq, ne_eq, Int.natCast_eq_zero]

theorem unaligned_rdX_eq_false {s : State} {r : Reg} {n : Nat} (h : xu s r % n = 0) :
    unaligned (s.rdX s.w r) n = false :=
  Bool.eq_false_iff.2 fun hu => (unaligned_rdX_iff s r n).1 hu h

/-! ## The reserved block -/

theorem resvBlock_eq_blockOf (s : State) (a : BitVec s.w) : ((resvBlock s.cfg a).toNat : Int) = blockOf s a.toNat := by
  rw [resvBlock_toNat, Int.natCast_sub (Nat.mod_le _ _), Int.natCast_emod, blockOf]

theorem resvBlock_eq_resvAddr_iff (s : State) (a : BitVec s.w) :
    resvBlock s.cfg a = s.resvAddr ↔ blockOf s a.toNat = s.resvAddr.toNat := by
  rw [← resvBlock_eq_blockOf, Int.natCast_inj, BitVec.toNat_inj]

/-- An SC succeeds exactly when it matches the reservation and no draw makes it fail. -/
theorem scSucceeds_iff (s : State) (r : Reg) : s.scSucceeds (s.rdX s.w r) = true ↔
    Matches s (xu s r) ∧ (s.cfg.scMayFail = true → Config.scFails s.draws = false) := by
  rw [State.scSucceeds, Bool.and_eq_true, Bool.and_eq_true, beq_iff_eq, resvBlock_eq_resvAddr_iff, Matches, xu]
  cases s.cfg.scMayFail <;> simp

theorem scSucceeds_eq_false {s : State} {r : Reg}
    (h : ¬Matches s (xu s r) ∨ (s.cfg.scMayFail = true ∧ Config.scFails s.draws = true)) :
    s.scSucceeds (s.rdX s.w r) = false := by
  refine Bool.eq_false_iff.2 fun hsc => ?_
  obtain ⟨hmatch, hdraw⟩ := (scSucceeds_iff s r).1 hsc
  obtain hno | ⟨hmay, hfails⟩ := h
  · exact hno hmatch
  · exact Bool.false_ne_true ((hdraw hmay).symm.trans hfails)

/-! ## A result after other updates -/

/-- Writing a result over updates that leave the registers, the pc and the configuration. -/
theorem result_completes {s u : State} (hx : u.x = s.x) (hpc : u.pc = s.pc) (hcfg : u.cfg = s.cfg) (len : Nat) (rd : Reg)
    (v : BitVec s.w) :
    ((u.result len rd v).pc.toNat : Int) = seqPc s len ∧ (rd ≠ 0 → (u.result len rd v).rdX s.w rd = v) ∧
      (∀ r, r ≠ rd → (u.result len rd v).rdX 64 r = s.rdX 64 r) ∧ (rd = 0 → (u.result len rd v).x = s.x) := by
  obtain ⟨-, hother, hzero⟩ := writesX_result hx len rd v fun _ => rfl
  refine ⟨?_, fun hrd => ?_, hother, hzero⟩
  · rw [State.result_pc_congr hpc hcfg, advance_pc_eq_seqPc]
  · rw [State.rdX_congr _ _ _ _ (State.result_x _ _ _ _), State.rdX_wrX_same _ _ _ s.w_le hrd]

/-- What a write left in memory does not depend on the other fields. -/
theorem wrote_congr {s t u : State} {a : Int} {n : Nat} {v : Int} (hmem : u.mem = t.mem) (h : Wrote s t a n v) :
    Wrote s u a n v := by
  rw [Wrote, hmem]
  exact h

/-! ## LR -/

theorem exec_of_isLr {s : State} {i : Instr} {rd rs1 : Reg} {n : Nat} (h : IsLr i rd rs1 n) (hl : Live i s) :
    exec i s = .next (s.opLr n rd rs1) := by
  cases h <;> exact exec_of_live hl rfl

theorem opLr_misaligned {s : State} {rs1 : Reg} {n : Nat} (h : xu s rs1 % n ≠ 0) (rd : Reg) :
    s.opLr n rd rs1 = s.raise .loadMisaligned (addrWord s (xu s rs1)) := by
  simp only [State.opLr, (unaligned_rdX_iff s rs1 n).2 h, if_true, rdX_setWidth_eq_addrWord]

theorem opLr_fails {s : State} {rs1 : Reg} {n : Nat} {f : PortFault} (ha : xu s rs1 % n = 0)
    (hf : FailsWith s .read (xu s rs1) n f) (rd : Reg) :
    s.opLr n rd rs1 = s.raise (loadFault f) (addrWord s (xu s rs1)) := by
  simp only [State.opLr, unaligned_rdX_eq_false ha, Bool.false_eq_true, if_false, memRead_of_failsWith hf,
    rdX_setWidth_eq_addrWord, faultCause_read]

theorem opLr_allowed {s : State} {rs1 : Reg} {n : Nat} (ha : xu s rs1 % n = 0) (hal : Allowed s .read (xu s rs1) n)
    (rd : Reg) : s.opLr n rd rs1 =
      ({ s with resvValid := true, resvAddr := resvBlock s.cfg (s.rdX s.w rs1) } : State).result 4 rd
        ((BitVec.ofNat (8 * n) (leValue s (xu s rs1) n)).signExtend s.w) := by
  simp only [State.opLr, unaligned_rdX_eq_false ha, Bool.false_eq_true, if_false, memRead_of_allowed hal]
  rfl

/-- The sign-extended bytes at an address, as the register reads them. -/
theorem signExtend_leValue_toNat (s : State) (a : Int) (n : Nat) :
    (((BitVec.ofNat (8 * n) (leValue s a n)).signExtend s.w).toNat : Int) =
      wrap s (((leValue s a n : Nat) : Int).bmod (256 ^ n)) := by
  have h := extend_leValue_eq_ofInt s a n true
  rw [if_pos rfl, if_pos rfl] at h
  rw [h, toNat_ofInt_eq_wrap]

/-- Settles O25: no check stops the LR, which reserves the block of its address and writes the bytes to rd. -/
theorem loadReservedResults : Obligations.LoadReservedResults := by
  intro s i rd rs1 n h hl ha hal
  have hexec := exec_of_isLr h hl
  rw [opLr_allowed ha hal] at hexec
  obtain ⟨hpc, hrd, hother, hzero⟩ := result_completes (s := s)
    (u := { s with resvValid := true, resvAddr := resvBlock s.cfg (s.rdX s.w rs1) }) rfl rfl rfl 4 rd
    ((BitVec.ofNat (8 * n) (leValue s (xu s rs1) n)).signExtend s.w)
  refine ⟨_, hexec, hpc, fun hne => ?_, hother, hzero, fun b => ?_, State.result_resvValid _ _ _ _, ?_, ?_⟩
  · rw [hrd hne, signExtend_leValue_toNat]
  · rw [State.result_mem]
  · rw [State.result_resvAddr]
    exact resvBlock_eq_blockOf s _
  · obtain ⟨x, pc, hframe⟩ := State.result_frame _ 4 rd _
    rw [hframe]

/-! ## SC -/

theorem exec_of_isSc {s : State} {i : Instr} {rd rs1 rs2 : Reg} {n : Nat} (h : IsSc i rd rs1 rs2 n) (hl : Live i s) :
    exec i s = .next (s.opSc n rd rs1 rs2) := by
  cases h <;> exact exec_of_live hl rfl

theorem size_of_isSc {i : Instr} {rd rs1 rs2 : Reg} {n : Nat} (h : IsSc i rd rs1 rs2 n) : n ≤ 8 := by
  cases h <;> decide

theorem opSc_misaligned {s : State} {rs1 : Reg} {n : Nat} (h : xu s rs1 % n ≠ 0) (rd rs2 : Reg) :
    s.opSc n rd rs1 rs2 = s.raise .storeMisaligned (addrWord s (xu s rs1)) := by
  simp only [State.opSc, (unaligned_rdX_iff s rs1 n).2 h, if_true, rdX_setWidth_eq_addrWord]

theorem opSc_fails {s : State} {rs1 : Reg} {n : Nat} {f : PortFault} (ha : xu s rs1 % n = 0)
    (hsc : s.scSucceeds (s.rdX s.w rs1) = true) (hf : FailsWith s .write (xu s rs1) n f) (rd rs2 : Reg) :
    s.opSc n rd rs1 rs2 = s.raise (storeFault f) (addrWord s (xu s rs1)) := by
  simp only [State.opSc, unaligned_rdX_eq_false ha, Bool.false_eq_true, if_false, hsc, if_true,
    memWrite_of_failsWith hf, rdX_setWidth_eq_addrWord, faultCause_write]

theorem opSc_succeeds {s : State} {rs1 : Reg} {n : Nat} (ha : xu s rs1 % n = 0)
    (hsc : s.scSucceeds (s.rdX s.w rs1) = true) (hal : Allowed s .write (xu s rs1) n) (rd rs2 : Reg) :
    ∃ t, s.memWrite (s.rdX s.w rs1) n (BitVec.ofInt (8 * n) (xu s rs2)) = .ok t ∧
      s.opSc n rd rs1 rs2 = t.dropResv.result 4 rd (0 : BitVec s.w) := by
  obtain ⟨t, hwrite⟩ := exists_memWrite_of_allowed hal ((s.rdX s.w rs2).setWidth (8 * n))
  refine ⟨t, by rw [← hwrite, setWidth_eq_ofInt_toNat, xu], ?_⟩
  simp only [State.opSc, unaligned_rdX_eq_false ha, Bool.false_eq_true, if_false, hsc, if_true, hwrite]

theorem opSc_without_access {s : State} {rs1 : Reg} {n : Nat} (ha : xu s rs1 % n = 0)
    (hsc : s.scSucceeds (s.rdX s.w rs1) = false) (rd rs2 : Reg) :
    s.opSc n rd rs1 rs2 = s.dropResv.result 4 rd (BitVec.ofNat s.w 1) := by
  simp only [State.opSc, unaligned_rdX_eq_false ha, Bool.false_eq_true, if_false, hsc]

theorem toNat_ofNat_one (s : State) : (BitVec.ofNat s.w 1).toNat = 1 := by
  rw [BitVec.toNat_ofNat, Nat.mod_eq_of_lt (Nat.one_lt_two_pow (Nat.ne_of_gt (Nat.lt_of_lt_of_le (by decide) s.w_pos)))]

/-- Settles O26: the SC that succeeds is a write of memory, the one that fails none; both then drop the reservation. -/
theorem storeConditionalResults : Obligations.StoreConditionalResults := by
  intro s i rd rs1 rs2 n h hl ha
  have hexec := exec_of_isSc h hl
  refine ⟨fun hw hmatch hdraw hal => ?succeeds, fun hno => ?fails⟩
  case succeeds =>
    obtain ⟨t, hwrite, hop⟩ := opSc_succeeds ha ((scSucceeds_iff s rs1).2 ⟨hmatch, hdraw⟩) hal rd rs2
    rw [hop] at hexec
    obtain ⟨hcfg, -, -, hx, hpc, -⟩ := State.memWrite_fields hwrite
    obtain ⟨hpc, hrd, hother, hzero⟩ := result_completes (u := t.dropResv) hx hpc hcfg 4 rd (0 : BitVec s.w)
    refine ⟨_, hexec, hpc, fun hne => ?_, hother, hzero, ?_, State.result_resvValid _ _ _ _, ?_⟩
    · rw [hrd hne]
      exact BitVec.toNat_zero
    · exact wrote_congr (t := t) (State.result_mem t.dropResv _ _ _) (wrote_of_memWrite hw (size_of_isSc h) hwrite)
    · obtain ⟨x, pc, hframe⟩ := t.dropResv.result_frame 4 rd (0 : BitVec s.w)
      rw [hframe, State.dropResv, State.memWrite_frame s t _ _ _ hwrite]
  case fails =>
    rw [opSc_without_access ha (scSucceeds_eq_false hno)] at hexec
    obtain ⟨hpc, hrd, hother, hzero⟩ := result_completes (s := s) (u := s.dropResv) rfl rfl rfl 4 rd (BitVec.ofNat s.w 1)
    refine ⟨_, hexec, hpc, fun hne => ?_, hother, hzero, fun b => ?_, State.result_resvValid _ _ _ _, ?_⟩
    · rw [hrd hne, toNat_ofNat_one]
    · rw [State.result_mem, State.dropResv_mem]
    · obtain ⟨x, pc, hframe⟩ := s.dropResv.result_frame 4 rd (BitVec.ofNat s.w 1)
      rw [hframe, State.dropResv]

/-! ## AMO -/

theorem signedOf_toNat {n : Nat} (v : BitVec (8 * n)) : signedOf n v.toNat = v.toInt := by
  rw [signedOf, BitVec.toInt_eq_toNat_bmod, two_pow_eight_mul]

theorem slt_iff_signedOf_lt {n : Nat} (a b : BitVec (8 * n)) :
    a.slt b = true ↔ signedOf n a.toNat < signedOf n b.toNat := by
  rw [BitVec.slt_iff_toInt_lt, signedOf_toNat, signedOf_toNat]

/-- A choice between two words, as one between the numbers they stand for. -/
theorem ite_eq_ofInt {m : Nat} {c : Bool} {p : Prop} [Decidable p] (h : c = true ↔ p) (a b : BitVec m) :
    (if c then a else b) = BitVec.ofInt m (if p then a.toNat else b.toNat : Nat) := by
  by_cases hp : p
  · rw [if_pos hp, if_pos (h.2 hp), ofInt_toNat_self]
  · rw [if_neg hp, if_neg fun hc => hp (h.1 hc), ofInt_toNat_self]

/-- A live AMO is `opAmo` with its operation, which on words is the one on numbers. -/
theorem exec_of_isAmo {s : State} {i : Instr} {rd rs1 rs2 : Reg} {n : Nat} {op : Nat → Nat → Nat}
    (h : IsAmo i rd rs1 rs2 n op) (hl : Live i s) :
    ∃ g : BitVec (8 * n) → BitVec (8 * n) → BitVec (8 * n), exec i s = .next (s.opAmo n rd rs1 rs2 g) ∧
      ∀ a b, g a b = BitVec.ofInt (8 * n) (op a.toNat b.toNat) := by
  cases h with
  | swapW | swapD => exact ⟨_, exec_of_live hl rfl, fun _ b => (ofInt_toNat_self b).symm⟩
  | addW | addD =>
    exact ⟨_, exec_of_live hl rfl, fun a b => by simp only [Int.natCast_add, BitVec.ofInt_add, ofInt_toNat_self]⟩
  | xorW | xorD => exact ⟨_, exec_of_live hl rfl, fun a b => (ofInt_toNat_self (a ^^^ b)).symm⟩
  | andW | andD => exact ⟨_, exec_of_live hl rfl, fun a b => (ofInt_toNat_self (a &&& b)).symm⟩
  | orW | orD => exact ⟨_, exec_of_live hl rfl, fun a b => (ofInt_toNat_self (a ||| b)).symm⟩
  | minW | minD => exact ⟨_, exec_of_live hl rfl, fun a b => ite_eq_ofInt (slt_iff_signedOf_lt a b) a b⟩
  | maxW | maxD => exact ⟨_, exec_of_live hl rfl, fun a b => ite_eq_ofInt (slt_iff_signedOf_lt b a) a b⟩
  | minuW | minuD => exact ⟨_, exec_of_live hl rfl, fun a b => ite_eq_ofInt BitVec.ult_iff_lt a b⟩
  | maxuW | maxuD => exact ⟨_, exec_of_live hl rfl, fun a b => ite_eq_ofInt BitVec.ult_iff_lt a b⟩

theorem size_of_isAmo {i : Instr} {rd rs1 rs2 : Reg} {n : Nat} {op : Nat → Nat → Nat} (h : IsAmo i rd rs1 rs2 n op) :
    n ≤ 8 := by
  cases h <;> decide

section
variable {s : State} {rs1 : Reg} {n : Nat} (rd rs2 : Reg) (g : BitVec (8 * n) → BitVec (8 * n) → BitVec (8 * n))

theorem opAmo_misaligned (h : xu s rs1 % n ≠ 0) :
    s.opAmo n rd rs1 rs2 g = s.raise .storeMisaligned (addrWord s (xu s rs1)) := by
  simp only [State.opAmo, (unaligned_rdX_iff s rs1 n).2 h, if_true, rdX_setWidth_eq_addrWord]

/-- The read half's failure is the AMO's, whatever the write half would answer. -/
theorem opAmo_read_fails {f : PortFault} (ha : xu s rs1 % n = 0) (hf : FailsWith s .read (xu s rs1) n f) :
    s.opAmo n rd rs1 rs2 g = s.raise (storeFault f) (addrWord s (xu s rs1)) := by
  simp only [State.opAmo, State.memAmo, unaligned_rdX_eq_false ha, Bool.false_eq_true, if_false, memRead_of_failsWith hf,
    rdX_setWidth_eq_addrWord, faultCause_write]

theorem opAmo_write_fails {f : PortFault} (ha : xu s rs1 % n = 0) (hal : Allowed s .read (xu s rs1) n)
    (hf : FailsWith s .write (xu s rs1) n f) :
    s.opAmo n rd rs1 rs2 g = s.raise (storeFault f) (addrWord s (xu s rs1)) := by
  simp only [State.opAmo, State.memAmo, unaligned_rdX_eq_false ha, Bool.false_eq_true, if_false, memRead_of_allowed hal,
    memWrite_of_failsWith hf, rdX_setWidth_eq_addrWord, faultCause_write]

theorem opAmo_allowed (ha : xu s rs1 % n = 0) (hr : Allowed s .read (xu s rs1) n) (hw : Allowed s .write (xu s rs1) n) :
    ∃ t, s.memWrite (s.rdX s.w rs1) n
        (g (BitVec.ofNat (8 * n) (leValue s (xu s rs1) n)) ((s.rdX s.w rs2).setWidth (8 * n))) = .ok t ∧
      s.opAmo n rd rs1 rs2 g = t.result 4 rd ((BitVec.ofNat (8 * n) (leValue s (xu s rs1) n)).signExtend s.w) := by
  obtain ⟨t, hwrite⟩ := exists_memWrite_of_allowed hw
    (g (BitVec.ofNat (8 * n) (leValue s (xu s rs1) n)) ((s.rdX s.w rs2).setWidth (8 * n)))
  refine ⟨t, hwrite, ?_⟩
  rw [xu] at hwrite ⊢
  simp only [State.opAmo, State.memAmo, unaligned_rdX_eq_false ha, Bool.false_eq_true, if_false, memRead_of_allowed hr,
    hwrite]

end

/-- The low n bytes of a register. -/
theorem toNat_setWidth_rdX (s : State) (r : Reg) (n : Nat) :
    ((s.rdX s.w r).setWidth (8 * n)).toNat = (xu s r % 256 ^ n).toNat := by
  have hcast : xu s r % 256 ^ n = (((s.rdX s.w r).toNat % 256 ^ n : Nat) : Int) := by
    rw [Int.natCast_emod, Int.natCast_pow, xu]
    rfl
  rw [BitVec.toNat_setWidth, two_pow_eight_mul, hcast, Int.toNat_natCast]

/-- Settles O27: no check stops the AMO, which writes the combination to memory and the old value to rd. -/
theorem amoResults : Obligations.AmoResults := by
  intro s i rd rs1 rs2 n op hcan h hl ha hread hwrite
  obtain ⟨g, hexec, hg⟩ := exec_of_isAmo h hl
  obtain ⟨t, ht, hop⟩ := opAmo_allowed rd rs2 g ha hread hwrite
  rw [hop] at hexec
  rw [hg, toNat_ofNat_leValue, toNat_setWidth_rdX] at ht
  obtain ⟨hcfg, -, -, hx, hpc, -⟩ := State.memWrite_fields ht
  obtain ⟨hpc, hrd, hother, hzero⟩ := result_completes hx hpc hcfg 4 rd
    ((BitVec.ofNat (8 * n) (leValue s (xu s rs1) n)).signExtend s.w)
  refine ⟨_, hexec, hpc, fun hne => ?_, hother, hzero, ?_, ?_, ?_⟩
  · rw [hrd hne, signExtend_leValue_toNat, signedOf]
  · exact wrote_congr (State.result_mem _ _ _ _) (wrote_of_memWrite hcan (size_of_isAmo h) ht)
  · rw [State.result_resvValid, State.memWrite_resvValid_iff ht, xu]
  · obtain ⟨x, pc, hframe⟩ := t.result_frame 4 rd ((BitVec.ofNat (8 * n) (leValue s (xu s rs1) n)).signExtend s.w)
    rw [hframe, State.memWrite_frame s t _ _ _ ht]

/-! ## Traps -/

/-- Settles O28: each of the three raises at its alignment check, or at the port's first failing half. -/
theorem atomicTraps : Obligations.AtomicTraps := by
  intro s i rd rs1 rs2 n hl
  refine ⟨fun ha => ⟨fun h => ?_, fun h => ?_, fun op h => ?_⟩,
    fun f ha => ⟨fun h hf => ?_, fun h hmatch hdraw hf => ?_, fun op h hf => ?_⟩⟩
  · exact traps_of_exec (exec_of_isLr h hl) (opLr_misaligned ha rd)
  · exact traps_of_exec (exec_of_isSc h hl) (opSc_misaligned ha rd rs2)
  · obtain ⟨g, hexec, -⟩ := exec_of_isAmo h hl
    exact traps_of_exec hexec (opAmo_misaligned rd rs2 g ha)
  · exact traps_of_exec (exec_of_isLr h hl) (opLr_fails ha hf rd)
  · exact traps_of_exec (exec_of_isSc h hl) (opSc_fails ha ((scSucceeds_iff s rs1).2 ⟨hmatch, hdraw⟩) hf rd rs2)
  · obtain ⟨g, hexec, -⟩ := exec_of_isAmo h hl
    obtain hread | ⟨hal, hwrite⟩ := hf
    · exact traps_of_exec hexec (opAmo_read_fails rd rs2 g ha hread)
    · exact traps_of_exec hexec (opAmo_write_fails rd rs2 g ha hal hwrite)

/-! ## Writes of other agents -/

theorem externalWrite_resvValid (s : State) {w : Nat} (a : BitVec w) (bytes : List Byte) :
    (externalWrite s a bytes).resvValid = (s.resvValid && !(byteAddrs a bytes.length).any s.inResv) := rfl

theorem externalWrite_mem (s : State) {w : Nat} (a : BitVec w) (bytes : List Byte) :
    (externalWrite s a bytes).mem = storeBytes s.mem (byteAddrs a bytes.length) bytes := rfl

/-- Settles O59: the reservation is kept exactly when no byte written lies in the block, and only bytes written change. -/
theorem externalWriteBreaksReservation : Obligations.ExternalWriteBreaksReservation := by
  intro s a bytes
  rw [externalWrite_resvValid, State.MemCanonical, State.MemCanonical, externalWrite_mem, ← any_inResv_iff]
  refine ⟨fun htouch => ?_, fun hno => ?_, storeBytes_wf s.mem _ bytes, fun b hb => ?_⟩
  · rw [htouch, Bool.not_true, Bool.and_false]
  · rw [Bool.eq_false_iff.2 hno, Bool.not_false, Bool.and_true]
  · refine storeBytes_read_other s.mem _ bytes b fun hmem => ?_
    exact (forall_mem_byteAddrs s a bytes.length (b ≠ ·)).2 hb b hmem rfl

end Sys2Proof.Machine
end

section
/-! SUPPORT. The sign and magnitude of a floating-point pattern, and the value of a magnitude: it grows with the
magnitude, and n units of a place are packed into one sum of the two. What `decode` answers, told by them. -/

namespace Sys2Proof.Machine

open Sys2Proof.Spec

/-! ## Signs and magnitudes of a pattern -/

theorem withSign_eq_signed (F : FpFormat) (neg : Bool) (k : Nat) : withSign F neg k = F.signed neg k := by
  cases neg
  · exact Nat.zero_add k
  · rfl

theorem FpFormat.signBit_eq (F : FpFormat) : F.signBit = 2 ^ F.expBits * 2 ^ F.fracBits := Nat.pow_add 2 _ _

theorem FpFormat.signBit_pos (F : FpFormat) : 0 < F.signBit := Nat.two_pow_pos _

theorem FpFormat.infBits_lt_signBit (F : FpFormat) : F.infBits < F.signBit := by
  rw [F.signBit_eq, FpFormat.infBits]
  exact Nat.mul_lt_mul_of_pos_right (Nat.sub_lt (Nat.two_pow_pos _) Nat.one_pos) (Nat.two_pow_pos _)

theorem FpFormat.two_pow_width (F : FpFormat) : 2 ^ F.width = 2 * F.signBit := by
  rw [FpFormat.width, FpFormat.signBit, Nat.pow_succ, Nat.mul_comm]

theorem FpFormat.mag_lt_signBit (F : FpFormat) (v : Nat) : F.mag v < F.signBit := Nat.mod_lt _ F.signBit_pos

@[simp] theorem FpFormat.mag_signed (F : FpFormat) (neg : Bool) {k : Nat} (h : k < F.signBit) :
    F.mag (F.signed neg k) = k := by
  cases neg
  · exact Nat.mod_eq_of_lt h
  · exact (Nat.add_mod_left _ _).trans (Nat.mod_eq_of_lt h)

@[simp] theorem FpFormat.neg_signed (F : FpFormat) (neg : Bool) {k : Nat} (h : k < F.signBit) :
    F.neg (F.signed neg k) = neg := by
  cases neg
  · simp [FpFormat.neg, FpFormat.signed, Nat.div_eq_of_lt h]
  · rw [FpFormat.neg, FpFormat.signed, if_pos rfl, Nat.add_div_left k F.signBit_pos, Nat.div_eq_of_lt h]
    rfl

theorem FpFormat.signed_lt (F : FpFormat) (neg : Bool) {k : Nat} (h : k < F.signBit) :
    F.signed neg k < 2 ^ F.width := by
  rw [F.two_pow_width, FpFormat.signed]
  split <;> omega

/-! ## The value of a magnitude -/

/-- The significand and exponent `decode` reads from the magnitude of a finite pattern (R616). -/
def FpFormat.parts (F : FpFormat) (k : Nat) : Nat × Int :=
  if k / 2 ^ F.fracBits = 0 then (k % 2 ^ F.fracBits, F.qmin)
  else (2 ^ F.fracBits + k % 2 ^ F.fracBits, F.qmin + ((k / 2 ^ F.fracBits : Nat) - 1))

theorem FpFormat.decode_nan {F : FpFormat} {v : Nat} (h : F.infBits < F.mag v) : F.decode v = .nan (F.isSNaN v) :=
  if_pos h

theorem FpFormat.decode_inf {F : FpFormat} {v : Nat} (h : F.mag v = F.infBits) : F.decode v = .inf (F.neg v) := by
  simp only [FpFormat.decode, h, Nat.lt_irrefl, if_false, if_true]

theorem FpFormat.decode_fin {F : FpFormat} {v : Nat} (h : F.mag v < F.infBits) :
    F.decode v = .fin (F.neg v) (F.parts (F.mag v)).1 (F.parts (F.mag v)).2 := by
  simp only [FpFormat.decode, FpFormat.parts, Nat.lt_asymm h, Nat.ne_of_lt h, if_false]
  split <;> rfl

/-- What `decode` can answer, told by the magnitude. -/
theorem FpFormat.decode_cases (F : FpFormat) (v : Nat) :
    (F.infBits < F.mag v ∧ F.decode v = .nan (F.isSNaN v)) ∨ (F.mag v = F.infBits ∧ F.decode v = .inf (F.neg v)) ∨
      (F.mag v < F.infBits ∧ F.decode v = .fin (F.neg v) (F.parts (F.mag v)).1 (F.parts (F.mag v)).2) := by
  obtain h | h | h := Nat.lt_trichotomy F.infBits (F.mag v)
  · exact .inl ⟨h, decode_nan h⟩
  · exact .inr (.inl ⟨h.symm, decode_inf h.symm⟩)
  · exact .inr (.inr ⟨h, decode_fin h⟩)

/-- The value of the positive pattern of a finite magnitude. -/
def FpFormat.magVal (F : FpFormat) (k : Nat) : Rat := ratOf (.fin false (F.parts k).1 (F.parts k).2)

theorem ratOf_fin_false (n : Nat) (e : Int) : ratOf (.fin false n e) = n * 2 ^ e := by
  rw [ratOf, if_neg Bool.false_ne_true, one_mul]

theorem ratOf_fin_true (n : Nat) (e : Int) : ratOf (.fin true n e) = -ratOf (.fin false n e) := by
  simp only [ratOf, Bool.false_eq_true, if_true, if_false, neg_mul, one_mul]

/-- n units of the place j above the least are the magnitude j * 2^fracBits + n, where n has as many digits as that
place asks for; n may carry into the next exponent. -/
theorem FpFormat.magVal_pack {F : FpFormat} {j n : Nat} (hlow : j = 0 ∨ 2 ^ F.fracBits ≤ n)
    (hhigh : n ≤ 2 * 2 ^ F.fracBits) : F.magVal (j * 2 ^ F.fracBits + n) = n * 2 ^ (F.qmin + j) := by
  have hpos : 0 < 2 ^ F.fracBits := Nat.two_pow_pos _
  have hdiv : (j * 2 ^ F.fracBits + n) / 2 ^ F.fracBits = j + n / 2 ^ F.fracBits := by
    rw [Nat.add_comm, Nat.add_mul_div_right _ _ hpos, Nat.add_comm]
  have hmod : (j * 2 ^ F.fracBits + n) % 2 ^ F.fracBits = n % 2 ^ F.fracBits := by
    rw [Nat.add_comm, Nat.add_mul_mod_self_right]
  rw [FpFormat.magVal, FpFormat.parts, hdiv, hmod]
  obtain hn | ⟨hn, hn'⟩ | rfl : n < 2 ^ F.fracBits ∨ (2 ^ F.fracBits ≤ n ∧ n < 2 * 2 ^ F.fracBits) ∨
    n = 2 * 2 ^ F.fracBits := by omega
  · obtain rfl : j = 0 := by omega
    rw [if_pos (by rw [Nat.div_eq_of_lt hn]), ratOf_fin_false, Nat.mod_eq_of_lt hn, Nat.cast_zero, add_zero]
  · have hone : n / 2 ^ F.fracBits = 1 := Nat.div_eq_of_lt_le (by omega) (by omega)
    rw [if_neg (by omega), ratOf_fin_false, hone, Nat.mod_eq_sub_mod hn, Nat.mod_eq_of_lt (by omega),
      Nat.add_sub_cancel' hn]
    congr 2
    push_cast
    ring
  · rw [Nat.mul_div_cancel _ hpos, if_neg (by omega), ratOf_fin_false, Nat.mul_mod_left,
      show F.qmin + (((j + 2 : Nat) : Int) - 1) = F.qmin + j + 1 by push_cast; ring, zpow_add_one₀ two_ne_zero]
    push_cast
    ring

/-- Every magnitude is so many units of a place. -/
theorem FpFormat.exists_pack (F : FpFormat) (k : Nat) :
    ∃ j n, k = j * 2 ^ F.fracBits + n ∧ (j = 0 ∨ 2 ^ F.fracBits ≤ n) ∧ n < 2 * 2 ^ F.fracBits := by
  have hk := Nat.div_add_mod' k (2 ^ F.fracBits)
  have hmod := Nat.mod_lt k (Nat.two_pow_pos F.fracBits)
  obtain hq | ⟨j, hq⟩ : k / 2 ^ F.fracBits = 0 ∨ ∃ j, k / 2 ^ F.fracBits = j + 1 :=
    (Nat.eq_zero_or_eq_succ_pred _).imp_right fun h => ⟨_, h⟩
  · exact ⟨0, k, by omega, .inl rfl, by rw [hq] at hk; omega⟩
  · rw [hq, Nat.succ_mul] at hk
    exact ⟨j, 2 ^ F.fracBits + k % 2 ^ F.fracBits, by omega, .inr (by omega), by omega⟩

theorem FpFormat.magVal_strictMono (F : FpFormat) : StrictMono F.magVal := by
  refine strictMono_nat_of_lt_succ fun k => ?_
  obtain ⟨j, n, rfl, hlow, hhigh⟩ := F.exists_pack k
  rw [F.magVal_pack hlow hhigh.le, Nat.add_assoc,
    F.magVal_pack (hlow.imp_right fun h => Nat.le_succ_of_le h) (Nat.succ_le_of_lt hhigh)]
  exact mul_lt_mul_of_pos_right (by exact_mod_cast Nat.lt_succ_self n) (zpow_pos two_pos _)

theorem FpFormat.magVal_zero (F : FpFormat) : F.magVal 0 = 0 := by
  rw [show (0 : Nat) = 0 * 2 ^ F.fracBits + 0 by omega, F.magVal_pack (.inl rfl) (Nat.zero_le _), Nat.cast_zero,
    zero_mul]

theorem FpFormat.magVal_nonneg (F : FpFormat) (k : Nat) : 0 ≤ F.magVal k := by
  rw [← F.magVal_zero]
  exact F.magVal_strictMono.monotone (Nat.zero_le k)

/-- A finite pattern is its magnitude's value with its sign; it is no finer than the subnormals and has at most p
digits. -/
theorem FpFormat.of_decode_fin {F : FpFormat} {v n : Nat} {neg : Bool} {e : Int} (h : F.decode v = .fin neg n e) :
    F.mag v < F.infBits ∧ neg = F.neg v ∧ ratOf (.fin false n e) = F.magVal (F.mag v) ∧ n < 2 ^ F.prec ∧
      F.qmin ≤ e := by
  obtain ⟨-, hd⟩ | ⟨-, hd⟩ | ⟨hlt, hd⟩ := F.decode_cases v <;> rw [hd] at h
  · cases h
  · cases h
  · cases h
    have hmod := Nat.mod_lt (F.mag v) (Nat.two_pow_pos F.fracBits)
    refine ⟨hlt, rfl, rfl, ?_⟩
    rw [FpFormat.parts, FpFormat.prec, Nat.pow_succ]
    split
    · exact ⟨by dsimp only; omega, le_refl _⟩
    · rename_i hne
      exact ⟨by dsimp only; omega,
        le_add_of_nonneg_right (sub_nonneg.2 (by exact_mod_cast Nat.pos_of_ne_zero hne))⟩

/-- The pattern of a sign and a finite magnitude decodes to the value of the magnitude with that sign. -/
theorem FpFormat.decode_signed {F : FpFormat} (neg : Bool) {k : Nat} (h : k < F.infBits) :
    ∃ n e, F.decode (F.signed neg k) = .fin neg n e ∧ ratOf (.fin false n e) = F.magVal k := by
  have hk := h.trans F.infBits_lt_signBit
  have hm := F.mag_signed neg hk
  have hd := F.decode_fin (hm.symm ▸ h)
  rw [F.neg_signed neg hk, hm] at hd
  exact ⟨_, _, hd, rfl⟩

end Sys2Proof.Machine
end

section
/-! SUPPORT. The order of values is the order of keys, and the class of a pattern is told by its decoded value. From
these the comparisons, FCLASS, FMIN and FMAX (O46, O47). -/

namespace Sys2Proof.Machine

open Sys2Proof.Spec

/-! ## NaNs, in the terms of the statements -/

theorem flagIf_NV (c : Bool) : flagIf c flagNV = if c then 16 else 0 := rfl

theorem FpFormat.isNaN_iff (F : FpFormat) (v : Nat) : F.isNaN v = true ↔ F.infBits < F.mag v := decide_eq_true_iff

theorem FpFormat.isNaN_eq_false_iff (F : FpFormat) (v : Nat) : F.isNaN v = false ↔ F.mag v ≤ F.infBits := by
  rw [FpFormat.isNaN, decide_eq_false_iff_not, Nat.not_lt]

theorem FpFormat.infBits_pos {F : FpFormat} (h : IsFormat F) : 0 < F.infBits := by
  obtain rfl | rfl := h <;> decide

theorem canonicalNaN_eq {F : FpFormat} (h : IsFormat F) :
    F.canonicalNaN = if F = binary32 then 0x7FC00000 else 0x7FF8000000000000 := by
  obtain rfl | rfl := h <;> decide

theorem FpFormat.isSNaN_eq_false {F : FpFormat} {v : Nat} (h : F.mag v ≤ F.infBits) : F.isSNaN v = false :=
  decide_eq_false fun hs => Nat.not_lt.2 h hs.1

/-! ## The order of values -/

theorem signedInt_lt_iff_of_lt {k l : Nat} (h : k < l) (n n' : Bool) :
    (signedInt n l < signedInt n' k ↔ n = true) ∧ (signedInt n k < signedInt n' l ↔ n' = false) := by
  cases n <;> cases n' <;> simp [signedInt] <;> omega

theorem signedInt_lt_same_iff {k : Nat} (h : 0 < k) (n n' : Bool) :
    signedInt n k < signedInt n' k ↔ n = true ∧ n' = false := by
  cases n <;> cases n' <;> simp [signedInt]
  omega

/-- Signed values are in the order of their signed magnitudes. -/
theorem ratOf_lt_iff {F : FpFormat} {n n' : Bool} {m m' k k' : Nat} {e e' : Int}
    (h : ratOf (.fin false m e) = F.magVal k) (h' : ratOf (.fin false m' e') = F.magVal k') :
    ratOf (.fin n m e) < ratOf (.fin n' m' e') ↔ signedInt n k < signedInt n' k' := by
  have hk := F.magVal_nonneg k
  have hk' := F.magVal_nonneg k'
  have hpos (i : Nat) : 0 < F.magVal i ↔ 0 < i := by
    rw [← F.magVal_zero]
    exact F.magVal_strictMono.lt_iff_lt
  cases n <;> cases n' <;> simp only [ratOf_fin_true, h, h', signedInt, Bool.false_eq_true, if_true, if_false]
  case false.false => rw [F.magVal_strictMono.lt_iff_lt, Int.ofNat_lt]
  case true.true => rw [neg_lt_neg_iff, F.magVal_strictMono.lt_iff_lt, neg_lt_neg_iff, Int.ofNat_lt]
  case false.true => exact iff_of_false (by linarith) (by omega)
  case true.false =>
    have hsum : -F.magVal k < F.magVal k' ↔ 0 < F.magVal k ∨ 0 < F.magVal k' := by
      constructor
      · intro hlt
        by_contra! hle
        linarith [hle.1, hle.2]
      · rintro (hlt | hlt) <;> linarith
    rw [hsum, hpos, hpos]
    omega

/-- For patterns that are no NaN, the order of values is the order of keys. -/
theorem below_iff_key_lt {F : FpFormat} (hF : IsFormat F) {a b : Nat} (ha : F.mag a ≤ F.infBits)
    (hb : F.mag b ≤ F.infBits) : Below (F.decode a) (F.decode b) ↔ F.key a < F.key b := by
  rw [FpFormat.key, FpFormat.key]
  obtain ⟨h, -⟩ | ⟨hma, hda⟩ | ⟨hma, hda⟩ := F.decode_cases a
  · exact absurd h (Nat.not_lt.2 ha)
  · obtain ⟨h, -⟩ | ⟨hmb, hdb⟩ | ⟨hmb, hdb⟩ := F.decode_cases b <;> rw [hda]
    · exact absurd h (Nat.not_lt.2 hb)
    · rw [hdb, hma, hmb]
      exact (signedInt_lt_same_iff (FpFormat.infBits_pos hF) _ _).symm
    · rw [hdb, hma]
      exact (signedInt_lt_iff_of_lt hmb _ _).1.symm
  · obtain ⟨h, -⟩ | ⟨hmb, hdb⟩ | ⟨hmb, hdb⟩ := F.decode_cases b <;> rw [hda]
    · exact absurd h (Nat.not_lt.2 hb)
    · rw [hdb, hmb]
      exact (signedInt_lt_iff_of_lt hma _ _).2.symm
    · rw [hdb]
      exact ratOf_lt_iff rfl rfl

theorem not_below_of_nan {F : FpFormat} {a b : Nat} (h : F.infBits < F.mag a ∨ F.infBits < F.mag b) :
    ¬Below (F.decode a) (F.decode b) := by
  obtain h | h := h
  · rw [FpFormat.decode_nan h]
    exact not_false
  · rw [FpFormat.decode_nan h]
    cases F.decode a <;> exact not_false

/-! ## Comparisons and classification -/

theorem FpFormat.compare_lt_iff_below {F : FpFormat} (hF : IsFormat F) (a b : Nat) :
    (F.compare .lt a b).1 = true ↔ Below (F.decode a) (F.decode b) := by
  rw [FpFormat.compare, Bool.and_eq_true, Bool.not_eq_true', Bool.or_eq_false_iff, F.isNaN_eq_false_iff,
    F.isNaN_eq_false_iff, decide_eq_true_iff]
  by_cases h : F.mag a ≤ F.infBits ∧ F.mag b ≤ F.infBits
  · rw [below_iff_key_lt hF h.1 h.2, and_iff_right h]
  · exact iff_of_false (fun hl => h hl.1) (not_below_of_nan (by omega))

theorem FpFormat.parts_eq_zero_iff (F : FpFormat) (k : Nat) : (F.parts k).1 = 0 ↔ k = 0 := by
  have hk := Nat.div_add_mod' k (2 ^ F.fracBits)
  have hpos := Nat.two_pow_pos F.fracBits
  rw [FpFormat.parts]
  split
  · next h => rw [h] at hk; dsimp only; omega
  · next h =>
    refine iff_of_false (by dsimp only; omega) fun hk => h ?_
    rw [hk, Nat.zero_div]

theorem FpFormat.parts_lt_iff (F : FpFormat) (k : Nat) : (F.parts k).1 < 2 ^ F.fracBits ↔ k < 2 ^ F.fracBits := by
  have hdiv : k / 2 ^ F.fracBits = 0 ↔ k < 2 ^ F.fracBits := Nat.div_eq_zero_iff_lt (Nat.two_pow_pos _)
  rw [FpFormat.parts]
  split
  · next h => exact iff_of_true (Nat.mod_lt _ (Nat.two_pow_pos _)) (hdiv.1 h)
  · next h => exact iff_of_false (by dsimp only; omega) (mt hdiv.2 h)

/-- The class bit, as the statement tells it from the decoded value (R632). -/
theorem FpFormat.classBit_eq (F : FpFormat) (a : Nat) : F.classBit a =
    match F.decode a with
    | .nan true => 8
    | .nan false => 9
    | .inf true => 0
    | .inf false => 7
    | .fin neg m _ =>
      if m = 0 then (if neg then 3 else 4)
      else if m < 2 ^ F.fracBits then (if neg then 2 else 5)
      else (if neg then 1 else 6) := by
  obtain ⟨h, hd⟩ | ⟨h, hd⟩ | ⟨h, hd⟩ := F.decode_cases a <;> rw [hd, FpFormat.classBit]
  · rw [(F.isNaN_iff a).2 h]
    cases F.isSNaN a <;> rfl
  · rw [(F.isNaN_eq_false_iff a).2 h.le, if_neg Bool.false_ne_true, if_pos h]
    cases F.neg a <;> rfl
  · simp only [(F.isNaN_eq_false_iff a).2 h.le, Bool.false_eq_true, if_false, Nat.ne_of_lt h, F.parts_eq_zero_iff,
      F.parts_lt_iff]

/-- Settles O46: values are in the order of their keys, so FEQ and FLE are told by FLT as equality and ≤ are by <. -/
theorem comparisonAndClassFollowValues : Obligations.ComparisonAndClassFollowValues := by
  intro F a b hF _ _ nan sig
  have hlt : (F.compare .lt a b).1 = (!nan && decide (F.key a < F.key b)) := rfl
  have hgt : (F.compare .lt b a).1 = (!nan && decide (F.key b < F.key a)) := by
    rw [show nan = (F.isNaN b || F.isNaN a) from Bool.or_comm _ _]
    rfl
  refine ⟨Prod.ext ?eq rfl, F.compare_lt_iff_below hF a b, rfl, Prod.ext ?le rfl, F.classBit_eq a⟩
  case eq =>
    change (!nan && decide (F.key a = F.key b)) = _
    rw [hlt, hgt]
    cases nan
    · simp only [Bool.not_false, Bool.true_and, decide_eq_false_iff_not, decide_eq_decide]
      omega
    · rfl
  case le =>
    change (!nan && decide (F.key a ≤ F.key b)) = _
    rw [hgt]
    cases nan
    · simp only [Bool.not_false, Bool.true_and, ← decide_not, Int.not_lt]
    · rfl

/-! ## FMIN and FMAX -/

theorem FpFormat.minMax_bits_of_below {F : FpFormat} {a b : Nat} (ha : F.isNaN a = false) (hb : F.isNaN b = false)
    (h : F.key a < F.key b) (mx : Bool) :
    (F.minMax mx a b).bits = (if mx then b else a) ∧ (F.minMax mx b a).bits = (if mx then b else a) := by
  have hne := Int.ne_of_gt h
  have hnlt := Int.lt_asymm h
  constructor <;> cases mx <;> simp [FpFormat.minMax, ha, hb, h, hne, hnlt]

theorem FpFormat.minMax_bits_mem {F : FpFormat} {a b : Nat} (ha : F.isNaN a = false) (hb : F.isNaN b = false)
    (mx : Bool) : (F.minMax mx a b).bits = a ∨ (F.minMax mx a b).bits = b := by
  simp only [FpFormat.minMax, ha, hb, Bool.false_eq_true, if_false]
  split
  · exact .inl rfl
  · exact .inr rfl

theorem FpFormat.minMax_flags (F : FpFormat) (mx : Bool) (a b : Nat) :
    (F.minMax mx a b).flags = if F.isSNaN a || F.isSNaN b then 16 else 0 := by
  rw [FpFormat.minMax]
  split
  · split <;> rfl
  · split <;> rfl

/-- Settles O47: of two numbers the one with the smaller key is the smaller value. -/
theorem minMaxFollowsValues : Obligations.MinMaxFollowsValues := by
  intro F a b hF _ _
  refine ⟨fun mx => F.minMax_flags mx a b, fun mx ha hb => ?nans, fun mx ha hb => ?nan,
    fun ha hb => ⟨FpFormat.minMax_bits_mem ha hb, fun h => ?below⟩, fun mx => ?zeros⟩
  case nans => rw [← canonicalNaN_eq hF, FpFormat.minMax, if_pos ha, if_pos hb]
  case nan => simp [FpFormat.minMax, ha, hb]
  case below =>
    rw [below_iff_key_lt hF ((F.isNaN_eq_false_iff a).1 ha) ((F.isNaN_eq_false_iff b).1 hb)] at h
    obtain ⟨hmin, hmin'⟩ := FpFormat.minMax_bits_of_below ha hb h false
    obtain ⟨hmax, hmax'⟩ := FpFormat.minMax_bits_of_below ha hb h true
    exact ⟨hmin, hmax, hmin', hmax'⟩
  case zeros => obtain rfl | rfl := hF <;> cases mx <;> decide

end Sys2Proof.Machine
end

section
/-! SUPPORT. FP registers and results in the terms of the statements; every result fits its format, so an FP instruction
that completes writes it (O35, O37 to O39). -/

namespace Sys2Proof.Machine

open Sys2Proof.Spec

/-! ## FP registers -/

/-- Settles O39: the box is the upper word. -/
theorem boxRoundTrip : Obligations.BoxRoundTrip := by
  intro s i v u
  have hbox : (0xFFFFFFFF#32 ++ v).extractLsb' 32 32 = 0xFFFFFFFF#32 := BitVec.extractLsb'_append_eq_left
  have hlow : (0xFFFFFFFF#32 ++ v).setWidth 32 = v := BitVec.setWidth_append_eq_right
  refine ⟨?_, ?_, fun hu => ?_⟩
  · rw [State.unboxS, State.writeS, State.rdF_wrF_same, unbox, if_pos hbox, hlow]
  · rw [State.writeS, State.rdF_wrF_same, hbox]
  · rw [State.unboxS, State.writeD, State.rdF_wrF_same, unbox, if_neg fun h => hu ?_]
    · rfl
    · have hval := congrArg BitVec.toNat h
      rw [BitVec.extractLsb'_toNat, Nat.shiftRight_eq_div_pow] at hval
      have := u.isLt
      change u.toNat / 2 ^ 32 % 2 ^ 32 = 0xFFFFFFFF at hval
      omega

theorem fpIn_binary32 (s : State) (i : Reg) : fpIn s binary32 i = s.readFp .single i := by
  have hiff : (s.rdF i).extractLsb' 32 32 = 0xFFFFFFFF#32 ↔ (s.rdF i).toNat / 2 ^ 32 = 0xFFFFFFFF := by
    rw [← BitVec.toNat_inj, BitVec.extractLsb'_toNat, Nat.shiftRight_eq_div_pow]
    have := (s.rdF i).isLt
    change _ / 2 ^ 32 % 2 ^ 32 = 0xFFFFFFFF ↔ _
    omega
  rw [fpIn, if_pos rfl, State.readFp, State.unboxS, unbox]
  by_cases h : (s.rdF i).extractLsb' 32 32 = 0xFFFFFFFF#32
  · rw [if_pos h, if_pos (hiff.1 h), BitVec.toNat_setWidth]
  · rw [if_neg h, if_neg (mt hiff.2 h)]
    rfl

theorem fpIn_binary64 (s : State) (i : Reg) : fpIn s binary64 i = s.readFp .double i := if_neg (by decide)

theorem State.readFp_lt (s : State) (p : Prec) (i : Reg) : s.readFp p i < 2 ^ p.fmt.width := by
  cases p
  · exact (s.unboxS i).isLt
  · exact (s.readD i).isLt

/-- A pattern that fits is written to its slot, a single boxed. -/
theorem State.exists_writeFp (s : State) {p : Prec} {bits : Nat} (h : bits < 2 ^ p.fmt.width) (rd : Reg) :
    ∃ v : Word, s.writeFp p rd bits = s.wrF rd v ∧
      v.toNat = (if p.fmt = binary32 then 0xFFFFFFFF * 2 ^ 32 else 0) + bits := by
  cases p
  · have hb : (BitVec.ofNat 32 bits).toNat = bits := Nat.mod_eq_of_lt h
    refine ⟨_, rfl, ?_⟩
    change _ = 0xFFFFFFFF * 2 ^ 32 + bits
    rw [BitVec.toNat_append, hb, ← Nat.shiftLeft_add_eq_or_of_lt (show bits < 2 ^ 32 from h), Nat.shiftLeft_eq]
    rfl
  · exact ⟨_, rfl, (Nat.mod_eq_of_lt h).trans (Nat.zero_add _).symm⟩

/-! ## Results -/

theorem fpResult_frame (s : State) (rd : Reg) (v : Word) (fl : FpFlags) :
    ∃ pc, ((s.wrF rd v).accrue fl).advance 4 =
      { s with f := s.f.set rd.toNat v rd.isLt, fflags := s.fflags ||| fl, fs := .dirty, pc := pc } := by
  rw [State.accrue]
  split
  · next h =>
    subst h
    exact ⟨_, by rw [show s.fflags ||| 0 = s.fflags from BitVec.or_zero]; rfl⟩
  · exact ⟨_, rfl⟩

/-- An instruction that writes an FP result of its format completes with it. -/
theorem setsFp_of_exec {i : Instr} {s : State} {p : Prec} {rd : Reg} {r : FpResult}
    (h : exec i s = .next (s.fpResult p rd r)) (hbits : r.bits < 2 ^ p.fmt.width) :
    SetsFp i s p.fmt rd r.bits r.flags := by
  obtain ⟨v, hwrite, hv⟩ := s.exists_writeFp hbits rd
  rw [State.fpResult, hwrite] at h
  obtain ⟨pc, hframe⟩ := fpResult_frame s rd v r.flags
  have hf : (((s.wrF rd v).accrue r.flags).advance 4).f = (s.wrF rd v).f := by simp
  refine ⟨_, h, ?_, ?_, fun i hi => ?_, ?_, ?_, fun a => ?_, ?_⟩
  · rw [State.advance_pc_congr (s := s) (by simp) (by simp), advance_pc_eq_seqPc]
  · rw [State.rdF_congr _ _ _ hf, State.rdF_wrF_same, hv]
  · rw [State.rdF_congr _ _ _ hf, State.rdF_wrF_other _ _ _ _ hi]
  all_goals rw [hframe]

theorem writesX_of_x_eq {s t : State} {rd : Reg} {v : BitVec s.w} {n : Int} (hx : t.x = (s.wrX rd v).x)
    (hv : v = BitVec.ofInt s.w n) : WritesX s t rd n := by
  refine ⟨fun hrd => ?_, fun r hr => ?_, fun hrd => ?_⟩
  · rw [State.rdX_congr _ _ _ _ hx, State.rdX_wrX_same _ _ _ s.w_le hrd, hv, toNat_ofInt_eq_wrap]
  · rw [State.rdX_congr _ _ _ _ hx, State.rdX_wrX_other _ _ _ _ _ hr]
  · rw [hx, State.wrX_x, if_pos hrd]

theorem fpToX_frame (s : State) (rd : Reg) (v : BitVec s.w) (fl : FpFlags) :
    ∃ x fflags fs pc, s.fpToX rd v fl = { s with x := x, fflags := fflags, fs := fs, pc := pc } := by
  rw [State.fpToX, State.accrue, State.wrX]
  split <;> split <;> exact ⟨_, _, _, _, rfl⟩

/-- An instruction that writes an integer result and accrues flags completes with them. -/
theorem setsFromFp_of_exec {i : Instr} {s : State} {rd : Reg} {v : BitVec s.w} {fl : FpFlags} {n : Int}
    (h : exec i s = .next (s.fpToX rd v fl)) (hv : v = BitVec.ofInt s.w n) : SetsFromFp i s rd n fl := by
  obtain ⟨x, fflags, fs, pc, hframe⟩ := fpToX_frame s rd v fl
  refine ⟨_, h, ?_, writesX_of_x_eq (by simp [State.fpToX]) hv, by simp [State.fpToX], by simp [State.fpToX],
    fun a => ?_, ?_⟩
  · rw [State.fpToX, State.advance_pc_congr (s := s) (by simp) (by simp), advance_pc_eq_seqPc]
  · rw [hframe]
  · rw [hframe]

/-! ## Results fit their format -/

theorem FpFormat.nanResult_lt {F : FpFormat} (hF : IsFormat F) (c : Bool) : (F.nanResult c).bits < 2 ^ F.width := by
  change F.canonicalNaN < 2 ^ F.width
  obtain rfl | rfl := hF <;> decide

theorem FpFormat.overflowMag_le (F : FpFormat) (m : RMode) (neg : Bool) : F.overflowMag m neg ≤ F.infBits := by
  cases m <;> cases neg <;> simp [FpFormat.overflowMag]

theorem FpFormat.signed_inf_lt (F : FpFormat) (neg : Bool) {k : Nat} (h : k ≤ F.infBits) :
    F.signed neg k < 2 ^ F.width := F.signed_lt neg (h.trans_lt F.infBits_lt_signBit)

theorem FpFormat.roundPack_lt (F : FpFormat) (m : RMode) (neg : Bool) (n : Nat) (e : Int) :
    (F.roundPack m neg n e).bits < 2 ^ F.width := by
  rw [FpFormat.roundPack]
  split
  · exact F.signed_inf_lt neg (Nat.zero_le _)
  · dsimp only
    split
    · exact F.signed_inf_lt neg (F.overflowMag_le m neg)
    · next h => exact F.signed_inf_lt neg (Nat.le_of_not_le h)

theorem FpFormat.sumFin_lt (F : FpFormat) (m : RMode) (n₁ n₂ : Bool) (m₁ m₂ : Nat) (e₁ e₂ : Int) :
    (F.sumFin m n₁ m₁ e₁ n₂ m₂ e₂).bits < 2 ^ F.width := by
  rw [FpFormat.sumFin]
  split
  · exact F.signed_inf_lt _ (Nat.zero_le _)
  · exact F.roundPack_lt ..

section
variable {F : FpFormat} (hF : IsFormat F) (m : RMode)
include hF

theorem FpFormat.sum_lt (x y : FpVal) : (F.sum m x y).bits < 2 ^ F.width := by
  unfold FpFormat.sum
  split
  case h_4 =>
    split
    · exact F.signed_inf_lt _ le_rfl
    · exact nanResult_lt hF _
  case h_5 | h_6 => exact F.signed_inf_lt _ le_rfl
  case h_7 => exact F.sumFin_lt ..
  all_goals exact nanResult_lt hF _

theorem FpFormat.mul_lt (a b : Nat) : (F.mul m a b).bits < 2 ^ F.width := by
  unfold FpFormat.mul
  split
  case h_4 => exact F.signed_inf_lt _ le_rfl
  case h_5 | h_6 =>
    split
    · exact nanResult_lt hF _
    · exact F.signed_inf_lt _ le_rfl
  case h_7 => exact F.roundPack_lt ..
  all_goals exact nanResult_lt hF _

theorem FpFormat.div_lt (a b : Nat) : (F.div m a b).bits < 2 ^ F.width := by
  unfold FpFormat.div
  split
  case h_5 => exact F.signed_inf_lt _ le_rfl
  case h_6 => exact F.signed_inf_lt _ (Nat.zero_le _)
  case h_7 =>
    split
    · split
      · exact nanResult_lt hF _
      · exact F.signed_inf_lt _ le_rfl
    · split
      · exact F.signed_inf_lt _ (Nat.zero_le _)
      · exact F.roundPack_lt ..
  all_goals exact nanResult_lt hF _

theorem FpFormat.sqrt_lt (a : Nat) : (F.sqrt m a).bits < 2 ^ F.width := by
  unfold FpFormat.sqrt
  split
  · exact nanResult_lt hF _
  · split
    · exact nanResult_lt hF _
    · exact F.signed_inf_lt false le_rfl
  · split
    · exact F.signed_inf_lt _ (Nat.zero_le _)
    · split
      · exact nanResult_lt hF _
      · exact F.roundPack_lt ..

theorem FpFormat.fma_lt (p q : Bool) (a b c : Nat) : (F.fma m p q a b c).bits < 2 ^ F.width := by
  rw [FpFormat.fma]
  dsimp only
  split
  · exact nanResult_lt hF _
  · exact sum_lt hF ..

theorem FpFormat.convert_lt (G : FpFormat) (a : Nat) : (G.convert F m a).bits < 2 ^ F.width := by
  unfold FpFormat.convert
  split
  · exact nanResult_lt hF _
  · exact F.signed_inf_lt _ le_rfl
  · exact F.roundPack_lt ..

theorem FpFormat.minMax_lt {a b : Nat} (ha : a < 2 ^ F.width) (hb : b < 2 ^ F.width) (mx : Bool) :
    (F.minMax mx a b).bits < 2 ^ F.width := by
  rw [FpFormat.minMax]
  split
  · split
    · exact nanResult_lt hF true
    · exact hb
  · split
    · exact ha
    · dsimp only
      split
      · exact ha
      · exact hb

end

/-! ## Instructions with a rounding mode -/

theorem mode_eq_effectiveRM (s : State) (rm : BitVec 3) : mode s rm = effectiveRM rm s.frm := by
  have hbits : ∀ v : BitVec 3, (match v.toNat with
    | 0 => some .rne
    | 1 => some .rtz
    | 2 => some .rdn
    | 3 => some .rup
    | 4 => some .rmm
    | _ => none) = RMode.ofBits v := by decide
  rw [effectiveRM, ← apply_ite, ← hbits]
  rfl

theorem exec_of_mode {i : Instr} {s : State} {rm : BitVec 3} {m : RMode} {k : RMode → State} (hl : Live i s)
    (hm : mode s rm = some m) (h : exec i s = .next (s.withRounding i rm k)) : exec i s = .next (k m) := by
  rw [h, State.withRounding_on _ _ _ _ _ hl.1 hl.2 (by rw [← mode_eq_effectiveRM, hm])]

theorem toInt_slot {s : State} (hw : s.w = 64) (v : BitVec s.w) : (v.setWidth 64).toInt = v.toInt := by
  simp only [BitVec.toInt_eq_toNat_bmod, s.toNat_slot, hw]

/-- The precision whose format this is, and the result the model writes, for each arithmetic instruction. -/
theorem exec_of_isArith {s : State} {i : Instr} {F : FpFormat} {rd : Reg} {rm : BitVec 3} {r : RMode → FpResult}
    (h : IsArith s i F rd rm r) (hl : Live i s) : ∃ p : Prec, p.fmt = F ∧ (∀ m, (r m).bits < 2 ^ p.fmt.width) ∧
      exec i s = .next (s.withRounding i rm fun m => s.fpResult p rd (r m)) := by
  have hS : IsFormat binary32 := .inl rfl
  have hD : IsFormat binary64 := .inr rfl
  cases h <;> simp only [fpIn_binary32, fpIn_binary64, ← low32_toInt, ← low32_toNat]
  case faddS | fsubS => exact ⟨.single, rfl, fun m => FpFormat.sum_lt hS m _ _, rfl⟩
  case fmulS => exact ⟨.single, rfl, fun m => FpFormat.mul_lt hS m _ _, rfl⟩
  case fdivS => exact ⟨.single, rfl, fun m => FpFormat.div_lt hS m _ _, rfl⟩
  case fsqrtS => exact ⟨.single, rfl, fun m => FpFormat.sqrt_lt hS m _, rfl⟩
  case fmaddS | fmsubS | fnmsubS | fnmaddS => exact ⟨.single, rfl, fun m => FpFormat.fma_lt hS m _ _ _ _ _, rfl⟩
  case fcvtSD => exact ⟨.single, rfl, fun m => FpFormat.convert_lt hS m _ _, rfl⟩
  case fcvtSW | fcvtSWu => exact ⟨.single, rfl, fun m => FpFormat.roundPack_lt .., rfl⟩
  case fcvtSL =>
    rw [xs, ← toInt_slot (w_of_enabled s hl.2 rfl)]
    exact ⟨.single, rfl, fun m => FpFormat.roundPack_lt .., rfl⟩
  case fcvtSLu =>
    rw [xu, ← s.toNat_slot]
    exact ⟨.single, rfl, fun m => FpFormat.roundPack_lt .., rfl⟩
  case faddD | fsubD => exact ⟨.double, rfl, fun m => FpFormat.sum_lt hD m _ _, rfl⟩
  case fmulD => exact ⟨.double, rfl, fun m => FpFormat.mul_lt hD m _ _, rfl⟩
  case fdivD => exact ⟨.double, rfl, fun m => FpFormat.div_lt hD m _ _, rfl⟩
  case fsqrtD => exact ⟨.double, rfl, fun m => FpFormat.sqrt_lt hD m _, rfl⟩
  case fmaddD | fmsubD | fnmsubD | fnmaddD => exact ⟨.double, rfl, fun m => FpFormat.fma_lt hD m _ _ _ _ _, rfl⟩
  case fcvtDS => exact ⟨.double, rfl, fun m => FpFormat.convert_lt hD m _ _, rfl⟩
  case fcvtDW | fcvtDWu => exact ⟨.double, rfl, fun m => FpFormat.roundPack_lt .., rfl⟩
  case fcvtDL =>
    rw [xs, ← toInt_slot (w_of_enabled s hl.2 rfl)]
    exact ⟨.double, rfl, fun m => FpFormat.roundPack_lt .., rfl⟩
  case fcvtDLu =>
    rw [xu, ← s.toNat_slot]
    exact ⟨.double, rfl, fun m => FpFormat.roundPack_lt .., rfl⟩

/-- Settles O35: with a valid rounding mode each of them writes its result, which fits its format. -/
theorem fpArithmeticCompletes : Obligations.FpArithmeticCompletes := by
  intro s i F rd rm r m h hl hm
  obtain ⟨p, rfl, hfits, hexec⟩ := exec_of_isArith h hl
  exact setsFp_of_exec (exec_of_mode hl hm hexec) (hfits m)

/-! ## Sign injection and moves -/

theorem FpFormat.div_signBit_lt {F : FpFormat} {v : Nat} (h : v < 2 ^ F.width) : v / F.signBit < 2 := by
  rw [F.two_pow_width, Nat.mul_comm] at h
  exact Nat.div_lt_of_lt_mul h

/-- A magnitude with another sign, as a number. -/
theorem FpFormat.signed_eq {F : FpFormat} (neg : Bool) (v : Nat) :
    F.signed neg (F.mag v) = v % F.signBit + neg.toNat * F.signBit := by
  cases neg
  · simp [FpFormat.signed, FpFormat.mag]
  · simp [FpFormat.signed, FpFormat.mag, Nat.add_comm]

/-- The sign bit of a pattern that fits is what lies above its magnitude. -/
theorem FpFormat.toNat_neg {F : FpFormat} {v : Nat} (h : v < 2 ^ F.width) : (F.neg v).toNat = v / F.signBit := by
  obtain hq | hq := Nat.lt_succ_iff_lt_or_eq.1 (F.div_signBit_lt h)
  · rw [FpFormat.neg, Nat.lt_one_iff.1 hq]
    rfl
  · rw [FpFormat.neg, hq]
    rfl

theorem toNat_not (b : Bool) : (!b).toNat = 1 - b.toNat := by cases b <;> rfl

theorem toNat_bne (a b : Bool) : (a != b).toNat = (a.toNat + b.toNat) % 2 := by cases a <;> cases b <;> rfl

/-- Sign injection with a sign made by `sign`, as a number. -/
theorem exec_of_sgnj {i : Instr} {s : State} {p : Prec} {rd a b : Reg} {sign : Bool → Bool → Bool} (hl : Live i s)
    (h : exec i s = .next (s.whenEnabled i (s.opSgnj p rd a b sign))) {k : Nat}
    (hk : (sign (p.fmt.neg (s.readFp p a)) (p.fmt.neg (s.readFp p b))).toNat = k) :
    s.readFp p a % p.fmt.signBit + k * p.fmt.signBit < 2 ^ p.fmt.width ∧
      exec i s = .next (s.fpResult p rd ⟨s.readFp p a % p.fmt.signBit + k * p.fmt.signBit, 0⟩) := by
  rw [← hk, ← p.fmt.signed_eq]
  exact ⟨p.fmt.signed_lt _ (p.fmt.mag_lt_signBit _), exec_of_live hl h⟩

/-- The result of a move, as the model writes it. -/
theorem exec_of_isFpMove {s : State} {i : Instr} {F : FpFormat} {rd : Reg} {r : FpResult} (h : IsFpMove s i F rd r)
    (hl : Live i s) : ∃ p : Prec, p.fmt = F ∧ r.bits < 2 ^ p.fmt.width ∧ exec i s = .next (s.fpResult p rd r) := by
  have hS : IsFormat binary32 := .inl rfl
  have hD : IsFormat binary64 := .inr rfl
  cases h <;> simp only [fpIn_binary32, fpIn_binary64, ← low32_toNat]
  case sgnjS => exact ⟨.single, rfl, exec_of_sgnj hl rfl (FpFormat.toNat_neg (s.readFp_lt .single _))⟩
  case sgnjD => exact ⟨.double, rfl, exec_of_sgnj hl rfl (FpFormat.toNat_neg (s.readFp_lt .double _))⟩
  case sgnjnS =>
    exact ⟨.single, rfl, exec_of_sgnj hl rfl (by rw [toNat_not, FpFormat.toNat_neg (s.readFp_lt .single _)]; rfl)⟩
  case sgnjnD =>
    exact ⟨.double, rfl, exec_of_sgnj hl rfl (by rw [toNat_not, FpFormat.toNat_neg (s.readFp_lt .double _)]; rfl)⟩
  case sgnjxS =>
    exact ⟨.single, rfl, exec_of_sgnj hl rfl (by
      rw [toNat_bne, FpFormat.toNat_neg (s.readFp_lt .single _), FpFormat.toNat_neg (s.readFp_lt .single _)]; rfl)⟩
  case sgnjxD =>
    exact ⟨.double, rfl, exec_of_sgnj hl rfl (by
      rw [toNat_bne, FpFormat.toNat_neg (s.readFp_lt .double _), FpFormat.toNat_neg (s.readFp_lt .double _)]; rfl)⟩
  case minS | maxS =>
    exact ⟨.single, rfl, FpFormat.minMax_lt hS (s.readFp_lt .single _) (s.readFp_lt .single _) _, exec_of_live hl rfl⟩
  case minD | maxD =>
    exact ⟨.double, rfl, FpFormat.minMax_lt hD (s.readFp_lt .double _) (s.readFp_lt .double _) _, exec_of_live hl rfl⟩
  case mvWX =>
    refine ⟨.single, rfl, (low32 _).isLt, (exec_of_live hl rfl).trans ?_⟩
    rw [State.fpResult, State.writeFp, Int.toNat_natCast, BitVec.ofNat_toNat, BitVec.setWidth_eq]
    rfl
  case mvDX =>
    rw [xu, w_of_enabled s hl.2 rfl, Int.toNat_natCast]
    refine ⟨.double, rfl, BitVec.isLt _, (exec_of_live hl rfl).trans ?_⟩
    rw [State.fpResult, State.writeFp, BitVec.ofNat_toNat, BitVec.setWidth_eq]
    rfl

/-- Settles O37: each of them writes its result, which fits its format; sign injection on bits is that on numbers. -/
theorem fpMoveResults : Obligations.FpMoveResults := by
  intro s i F rd r h hl
  obtain ⟨p, rfl, hfits, hexec⟩ := exec_of_isFpMove h hl
  exact setsFp_of_exec hexec hfits

/-! ## Comparisons, classification and moves to an integer register -/

theorem exec_fpCompare (s : State) (rd a b : Reg) (k : FpCompare) {F : FpFormat} (hF : IsFormat F) {i : Instr}
    (hi : i = match k with
      | .eq => if F = binary32 then .feqS rd a b else .feqD rd a b
      | .lt => if F = binary32 then .fltS rd a b else .fltD rd a b
      | .le => if F = binary32 then .fleS rd a b else .fleD rd a b) (hl : Live i s) :
    exec i s = .next (s.fpToX rd (if (F.compare k (fpIn s F a) (fpIn s F b)).1 then BitVec.ofNat s.w 1 else 0)
      (F.compare k (fpIn s F a) (fpIn s F b)).2) := by
  obtain rfl | rfl := hF
  · rw [fpIn_binary32, fpIn_binary32]
    cases k <;> subst hi <;> exact exec_of_live hl rfl
  · rw [fpIn_binary64, fpIn_binary64]
    cases k <;> subst hi <;> exact exec_of_live hl rfl

/-- Settles O38: each result is an integer modulo 2^XLEN. -/
theorem fpToIntegerRegisterResults : Obligations.FpToIntegerRegisterResults := by
  intro s rd a b
  refine ⟨fun F hF k i hi hl => ?compare, fun F hF i hi hl => ?fclass, fun hl => ?word, fun hl => ?double⟩
  case compare =>
    refine setsFromFp_of_exec (exec_fpCompare s rd a b k hF hi hl) ?_
    split
    · exact (BitVec.ofInt_natCast _ 1).symm
    · exact (BitVec.ofInt_natCast _ 0).symm
  case fclass =>
    have hexec : exec i s = .next (s.fpToX rd (BitVec.ofNat s.w (2 ^ F.classBit (fpIn s F a))) 0) := by
      obtain rfl | rfl := hF <;> subst hi
      · rw [fpIn_binary32]
        exact exec_of_live hl rfl
      · rw [fpIn_binary64]
        exact exec_of_live hl rfl
    exact setsFromFp_of_exec hexec (BitVec.ofInt_natCast _ _).symm
  case word =>
    refine sets_of_live (v := sext32 s.w (low32 (s.rdF a))) hl rfl (sext32_eq_ofInt _ ?_)
    exact setWidth_eq_ofInt_toNat _ 32
  case double =>
    have hw := w_of_enabled s hl.2 rfl
    refine sets_of_live (v := (s.rdF a).setWidth s.w) hl ?_ (setWidth_eq_ofInt_toNat _ _)
    rw [w_of_enabled s hl.2 rfl, BitVec.setWidth_eq]
    rfl

end Sys2Proof.Machine
end

section
/-! SUPPORT. Rounding to an integer in a mode: `roundTo` does it, and the integer is determined by the value. From
this the conversions to an integer (O36). -/

namespace Sys2Proof.Machine

open Sys2Proof.Spec

/-! ## Values at a place -/

theorem ratOf_div_two_zpow (neg : Bool) (n : Nat) (e q : Int) :
    ratOf (.fin neg n e) / 2 ^ q = ratOf (.fin neg n (e - q)) := by
  rw [ratOf, ratOf, zpow_sub₀ two_ne_zero, mul_div_assoc]

theorem ratOf_fin (neg : Bool) (n : Nat) (e : Int) : ratOf (.fin neg n e) = (signedInt neg n : Int) * 2 ^ e := by
  cases neg <;> simp [ratOf, signedInt]

/-! ## What rounding to an integer determines -/

section
variable {m : RMode} {v : Rat} {k l : Int}

/-- A rounded value lies less than 1 from the value. -/
theorem roundsTo_near (h : RoundsTo m v k) : v < k + 1 ∧ (k : Rat) < v + 1 := by
  cases m
  case rne => obtain ⟨h1, h2⟩ | ⟨h | h, -⟩ := h <;> constructor <;> linarith
  case rtz =>
    obtain hv | hv := le_or_gt 0 v
    · obtain ⟨h1, h2⟩ := h.1 hv
      constructor <;> linarith
    · obtain ⟨h1, h2⟩ := h.2 hv
      constructor <;> linarith
  case rdn | rup => obtain ⟨h1, h2⟩ := h; constructor <;> linarith
  case rmm => obtain ⟨h1, h2⟩ | ⟨-, h⟩ | ⟨-, h⟩ := h <;> constructor <;> linarith

theorem roundsTo_le_of_le (h : RoundsTo m v k) (hl : (l : Rat) ≤ v) : l ≤ k := by
  have : (l : Rat) < k + 1 := hl.trans_lt (roundsTo_near h).1
  exact Int.lt_add_one_iff.1 (by exact_mod_cast this)

theorem roundsTo_ge_of_ge (h : RoundsTo m v k) (hl : v ≤ l) : k ≤ l := by
  have : (k : Rat) < l + 1 := (roundsTo_near h).2.trans_le (by linarith)
  exact Int.lt_add_one_iff.1 (by exact_mod_cast this)

theorem roundsTo_intCast (m : RMode) (k : Int) : RoundsTo m k k := by
  cases m <;> simp [RoundsTo]

/-- Two roundings of one value that differ are the integers on its two sides. -/
theorem roundsTo_unique (hk : RoundsTo m v k) (hl : RoundsTo m v l) : k = l := by
  wlog hlt : k < l generalizing k l
  · obtain h | h := lt_or_eq_of_le (not_lt.1 hlt)
    · exact (this hl hk h).symm
    · exact h.symm
  exfalso
  have hgap : (k : Rat) + 1 ≤ l := by exact_mod_cast hlt
  cases m
  case rne =>
    obtain ⟨h1, h2⟩ | ⟨h1 | h1, h2⟩ := hk <;> obtain ⟨h3, h4⟩ | ⟨h3 | h3, h4⟩ := hl
    case inr.inl.inr.inr =>
      have : l = k + 1 := by
        have : (l : Rat) = k + 1 := by linarith
        exact_mod_cast this
      omega
    all_goals linarith
  case rtz =>
    obtain hv | hv := le_or_gt 0 v
    · linarith [(hk.1 hv).2, (hl.1 hv).1]
    · linarith [(hk.2 hv).1, (hl.2 hv).2]
  case rdn => linarith [hk.2, hl.1]
  case rup => linarith [hk.1, hl.2]
  case rmm =>
    obtain ⟨h1, h2⟩ | ⟨h1, h2⟩ | ⟨h1, h2⟩ := hk <;> obtain ⟨h3, h4⟩ | ⟨h3, h4⟩ | ⟨h3, h4⟩ := hl <;> linarith

end

/-! ## `roundTo` rounds -/

/-- The mode adds one to the integer part `q` of a magnitude whose fraction is `x`. -/
def RoundsUp (m : RMode) (neg : Bool) (q : Nat) (x : Rat) : Prop :=
  match m with
  | .rne => 1 < 2 * x ∨ (2 * x = 1 ∧ q % 2 = 1)
  | .rtz => False
  | .rdn => neg = true ∧ x ≠ 0
  | .rup => neg = false ∧ x ≠ 0
  | .rmm => 1 ≤ 2 * x

theorem ite_cases {α : Type} {c : Bool} {p : Prop} (h : c = true ↔ p) (a b : α) :
    (p ∧ (if c then a else b) = a) ∨ (¬p ∧ (if c then a else b) = b) := by
  by_cases hp : p
  · exact .inl ⟨hp, if_pos (h.2 hp)⟩
  · exact .inr ⟨hp, if_neg (mt h.1 hp)⟩

theorem roundShift_cases (m : RMode) (neg : Bool) (n k : Nat) :
    let x : Rat := (n % 2 ^ k : Nat) / 2 ^ k
    (RoundsUp m neg (n / 2 ^ k) x ∧ roundShift m neg n k = n / 2 ^ k + 1) ∨
      (¬RoundsUp m neg (n / 2 ^ k) x ∧ roundShift m neg n k = n / 2 ^ k) := by
  intro x
  refine ite_cases ?_ _ _
  have hpos : (0 : Rat) < 2 ^ k := pow_pos two_pos k
  have hlt : 1 < 2 * x ↔ 2 ^ k < 2 * (n % 2 ^ k) := by
    rw [← mul_div_assoc, one_lt_div hpos]
    exact_mod_cast Iff.rfl
  have heq : 2 * x = 1 ↔ 2 * (n % 2 ^ k) = 2 ^ k := by
    rw [← mul_div_assoc, div_eq_one_iff_eq hpos.ne']
    exact_mod_cast Iff.rfl
  have hle : 1 ≤ 2 * x ↔ 2 ^ k ≤ 2 * (n % 2 ^ k) := by
    rw [← mul_div_assoc, one_le_div hpos]
    exact_mod_cast Iff.rfl
  have hzero : x ≠ 0 ↔ n % 2 ^ k ≠ 0 := by
    rw [Ne, div_eq_zero_iff, or_iff_left hpos.ne', Nat.cast_eq_zero]
  cases m <;> simp [RoundsUp, hlt, heq, hle, hzero]

/-- The exact value at a place is the integer part and a fraction below 1, which is 0 exactly when no digit is cut off;
`roundTo` is the integer part, with one added where the mode says so. -/
theorem roundTo_cases (m : RMode) (neg : Bool) (n : Nat) (e q : Int) :
    ∃ (i : Nat) (x : Rat), (n : Rat) * 2 ^ (e - q) = i + x ∧ 0 ≤ x ∧ x < 1 ∧ (exactAt n e q = true ↔ x = 0) ∧
      ((RoundsUp m neg i x ∧ roundTo m neg n e q = i + 1) ∨ (¬RoundsUp m neg i x ∧ roundTo m neg n e q = i)) := by
  rw [roundTo, exactAt]
  by_cases h : q ≤ e
  · refine ⟨n * 2 ^ (e - q).toNat, 0, ?_, le_rfl, zero_lt_one, by simp [h], .inr ⟨?_, if_pos h⟩⟩
    · rw [add_zero, Nat.cast_mul, Nat.cast_pow, Nat.cast_ofNat, ← zpow_natCast, Int.toNat_of_nonneg (by omega)]
    · cases m <;> simp [RoundsUp]
  · obtain ⟨k, hk⟩ : ∃ k : Nat, q - e = k := ⟨(q - e).toNat, by omega⟩
    have hpos : (0 : Rat) < 2 ^ k := pow_pos two_pos k
    rw [if_neg h, if_neg h, show e - q = -(k : Int) by omega, hk, Int.toNat_natCast]
    refine ⟨n / 2 ^ k, (n % 2 ^ k : Nat) / 2 ^ k, ?_, by positivity, ?_, ?_, roundShift_cases m neg n k⟩
    · rw [zpow_neg, zpow_natCast, ← div_eq_mul_inv, eq_comm, ← mul_right_cancel_iff_of_pos hpos, add_mul,
        div_mul_cancel₀ _ hpos.ne', div_mul_cancel₀ _ hpos.ne']
      exact_mod_cast Nat.div_add_mod' n (2 ^ k)
    · rw [div_lt_one hpos]
      exact_mod_cast Nat.mod_lt n (Nat.two_pow_pos k)
    · rw [decide_eq_true_iff, div_eq_zero_iff, or_iff_left hpos.ne', Nat.cast_eq_zero]

/-- The two candidates lie x and 1 - x from the magnitude, on its two sides; each mode's clause is linear in x. -/
theorem roundsTo_of_roundsUp {m : RMode} {neg : Bool} {i j : Nat} {x : Rat} (h0 : 0 ≤ x) (h1 : x < 1)
    (h : (RoundsUp m neg i x ∧ j = i + 1) ∨ (¬RoundsUp m neg i x ∧ j = i)) :
    RoundsTo m (signedInt neg 1 * (i + x)) (signedInt neg j) := by
  have hi : (0 : Rat) ≤ i := Nat.cast_nonneg i
  have hj : ((j : Int) : Rat) = j := Int.cast_natCast j
  have hcast : (j : Rat) = i + 1 ↔ j = i + 1 := by exact_mod_cast Iff.rfl
  cases neg
  case false => cases m <;> simp only [RoundsUp, RoundsTo, signedInt] at h ⊢ <;> grind
  case true => cases m <;> simp only [RoundsUp, RoundsTo, signedInt] at h ⊢ <;> grind

theorem roundsUp_ne_zero {m : RMode} {neg : Bool} {i : Nat} {x : Rat} (h : RoundsUp m neg i x) : x ≠ 0 := by
  rintro rfl
  cases m <;> norm_num [RoundsUp] at h

theorem signedInt_cast (neg : Bool) (n : Nat) : ((signedInt neg n : Int) : Rat) = signedInt neg 1 * n := by
  cases neg <;> simp [signedInt]

theorem signedInt_one_ne_zero (neg : Bool) : ((signedInt neg 1 : Int) : Rat) ≠ 0 := by cases neg <;> simp [signedInt]

theorem signedInt_mul_ratOf (neg : Bool) (n : Nat) (e : Int) :
    ratOf (.fin neg n e) = signedInt neg 1 * (n * 2 ^ e) := by
  cases neg <;> simp [ratOf, signedInt]

/-- `roundTo` rounds the value to units of its place (R622). -/
theorem roundsTo_roundTo (m : RMode) (neg : Bool) (n : Nat) (e q : Int) :
    RoundsTo m (ratOf (.fin neg n e) / 2 ^ q) (signedInt neg (roundTo m neg n e q)) := by
  obtain ⟨i, x, hv, h0, h1, -, h⟩ := roundTo_cases m neg n e q
  rw [ratOf_div_two_zpow, signedInt_mul_ratOf, hv]
  exact roundsTo_of_roundsUp h0 h1 h

theorem exactAt_iff (m : RMode) (neg : Bool) (n : Nat) (e q : Int) : exactAt n e q = true ↔
    ((signedInt neg (roundTo m neg n e q) : Int) : Rat) = ratOf (.fin neg n e) / 2 ^ q := by
  obtain ⟨i, x, hv, h0, h1, hx, h⟩ := roundTo_cases m neg n e q
  rw [ratOf_div_two_zpow, signedInt_mul_ratOf, hv, hx, signedInt_cast, mul_right_inj' (signedInt_one_ne_zero neg)]
  obtain ⟨hup, hr⟩ | ⟨-, hr⟩ := h <;> rw [hr]
  · refine iff_of_false (roundsUp_ne_zero hup) fun h => ?_
    push_cast at h
    linarith
  · rw [left_eq_add]

/-! ## Conversions to an integer -/

theorem range_of_isToInt {i : Instr} {F : FpFormat} {rd a : Reg} {rm : BitVec 3} {lo hi : Int}
    (h : IsToInt i F rd a rm lo hi) : ∃ (p : Prec) (sg : Bool) (n : Nat), p.fmt = F ∧ intRange sg n = ⟨lo, hi⟩ ∧
      (hi < 2 ^ 32 ∧ n = 32 ∨ ¬hi < 2 ^ 32 ∧ n = 64) ∧
      ∀ s, exec i s = .next (s.withRounding i rm (s.opToInt p sg n rd a)) := by
  cases h
  case wS => exact ⟨.single, true, 32, rfl, rfl, by decide, fun _ => rfl⟩
  case wuS => exact ⟨.single, false, 32, rfl, rfl, by decide, fun _ => rfl⟩
  case lS => exact ⟨.single, true, 64, rfl, rfl, by decide, fun _ => rfl⟩
  case luS => exact ⟨.single, false, 64, rfl, rfl, by decide, fun _ => rfl⟩
  case wD => exact ⟨.double, true, 32, rfl, rfl, by decide, fun _ => rfl⟩
  case wuD => exact ⟨.double, false, 32, rfl, rfl, by decide, fun _ => rfl⟩
  case lD => exact ⟨.double, true, 64, rfl, rfl, by decide, fun _ => rfl⟩
  case luD => exact ⟨.double, false, 64, rfl, rfl, by decide, fun _ => rfl⟩

/-- An integer in its low n bits, sign-extended to XLEN. -/
theorem signExtend_ofInt {s : State} {n : Nat} {hi : Int} (h : hi < 2 ^ 32 ∧ n = 32 ∨ ¬hi < 2 ^ 32 ∧ n = 64) (v : Int) :
    (BitVec.ofInt n v).signExtend s.w = BitVec.ofInt s.w (if hi < 2 ^ 32 then v.bmod (2 ^ 32) else v) := by
  obtain ⟨hlt, rfl⟩ | ⟨hlt, rfl⟩ := h
  · rw [if_pos hlt]
    exact sext32_ofInt s.w v
  · have hdvd : ((2 ^ s.w : Nat) : Int) ∣ v.bmod (2 ^ 64) - v :=
      (Int.natCast_dvd_natCast.2 (Nat.pow_dvd_pow 2 s.w_le)).trans Int.dvd_bmod_sub_self
    rw [if_neg hlt, BitVec.signExtend, BitVec.toInt_ofInt]
    apply BitVec.eq_of_toNat_eq
    apply Int.ofNat_inj.1
    rw [toNat_ofInt_eq_emod, toNat_ofInt_eq_emod]
    exact (Int.modEq_iff_dvd.2 hdvd).symm

/-- The value and flags of a conversion of a finite value (R633). -/
theorem FpFormat.toInt_fin {F : FpFormat} {v n : Nat} {neg : Bool} {e : Int} (h : F.decode v = .fin neg n e) (m : RMode)
    (lo hi : Int) : ∃ k : Int, RoundsTo m (ratOf (.fin neg n e)) k ∧ F.toInt m ⟨lo, hi⟩ v =
      (if k < lo then lo else if hi < k then hi else k,
        if k < lo ∨ hi < k then 16 else if (k : Rat) = ratOf (.fin neg n e) then 0 else 1) := by
  have hk := roundsTo_roundTo m neg n e 0
  have hexact := exactAt_iff m neg n e 0
  rw [zpow_zero, div_one] at hk hexact
  refine ⟨_, hk, ?_⟩
  simp only [FpFormat.toInt, h]
  generalize signedInt neg (roundTo m neg n e 0) = k at hexact ⊢
  by_cases hlo : k < lo
  · rw [if_pos hlo, if_pos hlo, if_pos (.inl hlo)]
    rfl
  · by_cases hhi : hi < k
    · rw [if_neg hlo, if_neg hlo, if_pos hhi, if_pos hhi, if_pos (.inr hhi)]
      rfl
    · rw [if_neg hlo, if_neg hlo, if_neg hhi, if_neg hhi, if_neg (not_or.2 ⟨hlo, hhi⟩), flagIf]
      simp only [← hexact, Bool.not_eq_true']
      cases exactAt n e 0 <;> rfl

/-- Settles O36: `roundTo` at place 0 is the rounding to an integer, exact where `exactAt` says so. -/
theorem toIntegerResults : Obligations.ToIntegerResults := by
  intro s i F rd a rm lo hi m h hl hm widen
  obtain ⟨p, sg, n, rfl, hrange, hn, hexec⟩ := range_of_isToInt h
  have hread : fpIn s p.fmt a = s.readFp p a := by
    cases p
    · exact fpIn_binary32 s a
    · exact fpIn_binary64 s a
  have hcvt := exec_of_mode hl hm (hexec s)
  rw [State.opToInt, hrange, ← hread] at hcvt
  have hsets := setsFromFp_of_exec hcvt (signExtend_ofInt hn _)
  split
  case h_1 hd =>
    rw [FpFormat.toInt, hd] at hsets
    exact hsets
  case h_2 hd =>
    rw [FpFormat.toInt, hd] at hsets
    exact hsets
  case h_3 hd =>
    obtain ⟨k, hk, htoInt⟩ := FpFormat.toInt_fin hd m lo hi
    rw [htoInt] at hsets
    exact ⟨k, hk, hsets⟩

end Sys2Proof.Machine
end

section
/-! SUPPORT. `roundPack` rounds at the last place of the value and packs the result: overflow, underflow and exactness
are told by the rounded magnitude (O41). -/

namespace Sys2Proof.Machine

open Sys2Proof.Spec

/-! ## Places -/

theorem two_zpow_pos (q : Int) : (0 : Rat) < 2 ^ q := zpow_pos two_pos q

theorem two_zpow_lt_iff {q q' : Int} : (2 : Rat) ^ q < 2 ^ q' ↔ q < q' := zpow_lt_zpow_iff_right₀ one_lt_two

theorem two_zpow_le_iff {q q' : Int} : (2 : Rat) ^ q ≤ 2 ^ q' ↔ q ≤ q' := zpow_le_zpow_iff_right₀ one_lt_two

theorem natCast_two_pow_mul_zpow (k : Nat) (q : Int) : ((2 ^ k : Nat) : Rat) * 2 ^ q = 2 ^ (q + k) := by
  rw [zpow_add₀ two_ne_zero, zpow_natCast, mul_comm]
  push_cast
  rfl

theorem mag_ratOf (neg : Bool) (n : Nat) (e : Int) : mag (ratOf (.fin neg n e)) = n * 2 ^ e := by
  have hpos : (0 : Rat) ≤ n * 2 ^ e := mul_nonneg (Nat.cast_nonneg n) (two_zpow_pos e).le
  rw [Spec.mag]
  cases neg
  · rw [ratOf_fin_false, if_neg (not_lt.2 hpos)]
  · rw [ratOf_fin_true, ratOf_fin_false, neg_neg]
    split
    · rfl
    · linarith

theorem ratOf_neg_iff {n : Nat} (hn : n ≠ 0) (neg : Bool) (e : Int) : decide (ratOf (.fin neg n e) < 0) = neg := by
  have hpos : (0 : Rat) < n * 2 ^ e := mul_pos (Nat.cast_pos.2 (Nat.pos_of_ne_zero hn)) (two_zpow_pos e)
  cases neg
  · rw [ratOf_fin_false, decide_eq_false (not_lt.2 hpos.le)]
  · rw [ratOf_fin_true, ratOf_fin_false, decide_eq_true (neg_lt_zero.2 hpos)]

theorem isPlace_iff (F : FpFormat) (v : Rat) (q : Int) :
    IsPlace F v q ↔ (2 : Rat) ^ (q + F.fracBits) ≤ mag v ∧ mag v < 2 ^ (q + F.fracBits + 1) := by
  rw [IsPlace, ratOf_fin_false, ratOf_fin_false, natCast_two_pow_mul_zpow, natCast_two_pow_mul_zpow, FpFormat.prec,
    Nat.add_sub_cancel, Nat.cast_add, Nat.cast_one, add_assoc]

theorem isPlace_unique {F : FpFormat} {v : Rat} {q q' : Int} (h : IsPlace F v q) (h' : IsPlace F v q') : q' = q := by
  rw [isPlace_iff] at h h'
  have h1 := two_zpow_lt_iff.1 (h.1.trans_lt h'.2)
  have h2 := two_zpow_lt_iff.1 (h'.1.trans_lt h.2)
  omega

theorem isLastPlace_iff {F : FpFormat} {v : Rat} {q : Int} (h : IsPlace F v q) (q' : Int) :
    IsLastPlace F v q' ↔ q' = max q F.qmin := by
  have hleast : (3 : Int) - 2 ^ (F.expBits - 1) - F.prec = F.qmin := by
    rw [FpFormat.qmin, FpFormat.emin, FpFormat.prec]
    omega
  rw [IsLastPlace, hleast, ratOf_fin_false, natCast_two_pow_mul_zpow, FpFormat.prec, Nat.add_sub_cancel]
  constructor
  · rintro (⟨hq, hp⟩ | ⟨rfl, hlt⟩)
    · rw [isPlace_unique h hp, max_eq_left]
      exact isPlace_unique h hp ▸ hq
    · have := two_zpow_lt_iff.1 (((isPlace_iff F v q).1 h).1.trans_lt hlt)
      rw [max_eq_right (by omega)]
  · rintro rfl
    obtain hle | hlt := le_or_gt F.qmin q
    · rw [max_eq_left hle]
      exact .inl ⟨hle, h⟩
    · rw [max_eq_right hlt.le]
      exact .inr ⟨rfl, ((isPlace_iff F v q).1 h).2.trans_le (two_zpow_le_iff.2 (by omega))⟩

theorem bitLength_bounds {n : Nat} (hn : n ≠ 0) :
    2 ^ (bitLength n - 1) ≤ n ∧ n < 2 ^ bitLength n ∧ 0 < bitLength n := by
  rw [bitLength, if_neg hn, Nat.add_sub_cancel]
  exact ⟨Nat.log2_self_le hn, Nat.lt_log2_self, Nat.succ_pos _⟩

/-- The place of n * 2^e, told by the digits of n. -/
def FpFormat.place (F : FpFormat) (n : Nat) (e : Int) : Int := bitLength n + e - F.prec

theorem isPlace_place (F : FpFormat) (neg : Bool) {n : Nat} (hn : n ≠ 0) (e : Int) :
    IsPlace F (ratOf (.fin neg n e)) (F.place n e) := by
  obtain ⟨hlow, hhigh, hpos⟩ := bitLength_bounds hn
  have he := two_zpow_pos e
  rw [isPlace_iff, mag_ratOf, FpFormat.place, FpFormat.prec]
  constructor
  · calc (2 : Rat) ^ (_ : Int) = ((2 ^ (bitLength n - 1) : Nat) : Rat) * 2 ^ e := by
          rw [natCast_two_pow_mul_zpow]
          congr 1
          omega
      _ ≤ n * 2 ^ e := mul_le_mul_of_nonneg_right (by exact_mod_cast hlow) he.le
  · calc (n : Rat) * 2 ^ e < ((2 ^ bitLength n : Nat) : Rat) * 2 ^ e :=
          mul_lt_mul_of_pos_right (by exact_mod_cast hhigh) he
      _ = 2 ^ (_ : Int) := by
          rw [natCast_two_pow_mul_zpow]
          congr 1
          omega

theorem ulpExp_eq (F : FpFormat) (n : Nat) (e : Int) : F.ulpExp n e = max (F.place n e) F.qmin := rfl

/-! ## Bounds of a rounded magnitude -/

theorem roundTo_le_of_le (m : RMode) (neg : Bool) {n a : Nat} {e q : Int} (h : (n : Rat) * 2 ^ e ≤ a * 2 ^ q) :
    roundTo m neg n e q ≤ a := by
  obtain ⟨i, x, hv, h0, -, -, hr⟩ := roundTo_cases m neg n e q
  rw [zpow_sub₀ two_ne_zero, ← mul_div_assoc] at hv
  have hle : (i : Rat) + x ≤ a := by rwa [← hv, div_le_iff₀ (two_zpow_pos q)]
  obtain ⟨hup, hr⟩ | ⟨-, hr⟩ := hr <;> rw [hr]
  · have hx := lt_of_le_of_ne h0 (roundsUp_ne_zero hup).symm
    have : (i : Rat) < a := by linarith
    exact_mod_cast this
  · have : (i : Rat) ≤ a := by linarith
    exact_mod_cast this

theorem le_roundTo_of_le (m : RMode) (neg : Bool) {n a : Nat} {e q : Int} (h : (a : Rat) * 2 ^ q ≤ n * 2 ^ e) :
    a ≤ roundTo m neg n e q := by
  obtain ⟨i, x, hv, -, h1, -, hr⟩ := roundTo_cases m neg n e q
  rw [zpow_sub₀ two_ne_zero, ← mul_div_assoc] at hv
  have hle : (a : Rat) ≤ i + x := by rwa [← hv, le_div_iff₀ (two_zpow_pos q)]
  have hlt : (a : Rat) < i + 1 := by linarith
  have : a ≤ i := Nat.lt_add_one_iff.1 (by exact_mod_cast hlt)
  obtain ⟨-, hr⟩ | ⟨-, hr⟩ := hr <;> omega

section
variable (F : FpFormat) (m : RMode) (neg : Bool) {n : Nat} (hn : n ≠ 0) (e : Int)
include hn

/-- Rounded to p digits, the magnitude has p digits or is the next power of two. -/
theorem roundTo_place_bounds : 2 ^ F.fracBits ≤ roundTo m neg n e (F.place n e) ∧
    roundTo m neg n e (F.place n e) ≤ 2 * 2 ^ F.fracBits := by
  have h := (isPlace_iff F _ _).1 (isPlace_place F false hn e)
  rw [mag_ratOf] at h
  refine ⟨le_roundTo_of_le m neg ?_, roundTo_le_of_le m neg ?_⟩
  · rw [natCast_two_pow_mul_zpow]
    exact h.1
  · rw [← Nat.pow_succ', natCast_two_pow_mul_zpow, Nat.cast_succ, ← add_assoc]
    exact h.2.le

theorem roundTo_qmin_le (h : F.place n e < F.qmin) : roundTo m neg n e F.qmin ≤ 2 ^ F.fracBits := by
  have hp := ((isPlace_iff F _ _).1 (isPlace_place F false hn e)).2
  rw [mag_ratOf] at hp
  refine roundTo_le_of_le m neg (hp.le.trans ?_)
  rw [natCast_two_pow_mul_zpow]
  exact two_zpow_le_iff.2 (by omega)

end

/-! ## Packing -/

/-- The magnitude `roundPack` packs before it looks for overflow. -/
def FpFormat.packed (F : FpFormat) (m : RMode) (neg : Bool) (n : Nat) (e : Int) : Nat :=
  (F.ulpExp n e - F.qmin).toNat * 2 ^ F.fracBits + roundTo m neg n e (F.ulpExp n e)

/-- The packed magnitude is the value rounded at its last place. -/
theorem magVal_packed (F : FpFormat) (m : RMode) (neg : Bool) {n : Nat} (hn : n ≠ 0) (e : Int) :
    F.magVal (F.packed m neg n e) = roundTo m neg n e (F.ulpExp n e) * 2 ^ F.ulpExp n e := by
  rw [FpFormat.packed, ulpExp_eq]
  obtain hle | hlt := le_or_gt F.qmin (F.place n e)
  · obtain ⟨hlow, hhigh⟩ := roundTo_place_bounds F m neg hn e
    rw [max_eq_left hle, F.magVal_pack (.inr hlow) hhigh, Int.toNat_of_nonneg (by omega), add_sub_cancel]
  · have hhigh := roundTo_qmin_le F m neg hn e hlt
    rw [max_eq_right hlt.le, sub_self, Int.toNat_zero, F.magVal_pack (.inl rfl) (by omega), Nat.cast_zero, add_zero]

theorem flagIf_or (c d : Bool) :
    flagIf c flagNX ||| flagIf (c && d) flagUF = (if c then if d then 3 else 1 else 0) := by
  cases c <;> cases d <;> rfl

theorem roundPack_of_overflow {F : FpFormat} {m : RMode} {neg : Bool} {n : Nat} {e : Int} (hn : n ≠ 0)
    (h : F.infBits ≤ F.packed m neg n e) : F.roundPack m neg n e = ⟨F.signed neg (F.overflowMag m neg), 5⟩ := by
  rw [FpFormat.roundPack, if_neg hn]
  exact if_pos h

theorem roundPack_of_fits {F : FpFormat} {m : RMode} {neg : Bool} {n : Nat} {e : Int} (hn : n ≠ 0)
    (h : F.packed m neg n e < F.infBits) : F.roundPack m neg n e = ⟨F.signed neg (F.packed m neg n e),
      if exactAt n e (F.ulpExp n e) then 0 else if F.tiny m neg n e then 3 else 1⟩ := by
  rw [FpFormat.roundPack, if_neg hn]
  refine (if_neg (Nat.not_le.2 h)).trans (congrArg (FpResult.mk _) ((flagIf_or _ _).trans ?_))
  cases exactAt n e (F.ulpExp n e) <;> rfl

/-! ## Overflow and underflow -/

/-- With B half the number of exponents, the least place and the magnitude of infinity. -/
theorem FpFormat.exists_half {F : FpFormat} (hF : IsFormat F) : ∃ B : Nat, 2 ≤ B ∧ 2 ^ (F.expBits - 1) = B ∧
    F.infBits = (2 * B - 1) * 2 ^ F.fracBits ∧ F.qmin = 2 - B - F.fracBits := by
  have hE : 2 ≤ F.expBits := by obtain rfl | rfl := hF <;> decide
  obtain ⟨k, hk⟩ : ∃ k, F.expBits = k + 1 := ⟨F.expBits - 1, by omega⟩
  refine ⟨2 ^ k, Nat.le_self_pow (by omega) 2, by rw [hk]; rfl, ?_, ?_⟩
  · rw [FpFormat.infBits, hk, Nat.pow_succ']
  · rw [FpFormat.qmin, FpFormat.emin, hk, Nat.add_sub_cancel, Nat.cast_pow]
    rfl

theorem magVal_two_pow_fracBits (F : FpFormat) : F.magVal (2 ^ F.fracBits) = 2 ^ F.emin := by
  have h := F.magVal_pack (j := 0) (n := 2 ^ F.fracBits) (.inl rfl) (by omega)
  rw [Nat.zero_mul, Nat.zero_add, natCast_two_pow_mul_zpow, FpFormat.qmin] at h
  rw [h, Nat.cast_zero, add_zero, sub_add_cancel]

theorem minNormal_eq_zpow (F : FpFormat) : minNormal F = 2 ^ F.emin := by
  rw [minNormal, ratOf_fin_false, Nat.cast_one, one_mul, FpFormat.emin]

section
variable {F : FpFormat} (hF : IsFormat F)
include hF

theorem maxFinite_eq_magVal : maxFinite F = F.magVal (F.infBits - 1) := by
  obtain ⟨B, hB, hE, hinf, hq⟩ := FpFormat.exists_half hF
  have hpos := Nat.two_pow_pos F.fracBits
  obtain ⟨j, rfl⟩ : ∃ j, B = j + 2 := ⟨B - 2, by omega⟩
  have hpack : F.infBits - 1 = (2 * j + 1) * 2 ^ F.fracBits + (2 * 2 ^ F.fracBits - 1) := by
    rw [hinf, show 2 * (j + 2) - 1 = 2 * j + 1 + 2 by omega, Nat.add_mul (2 * j + 1) 2]
    omega
  rw [hpack, F.magVal_pack (.inr (by omega)) (by omega), maxFinite, ratOf_fin_false, FpFormat.prec, Nat.pow_succ', hq,
    show (2 : Int) ^ (F.expBits - 1) = ((j + 2 : Nat) : Int) by rw [← hE]; push_cast; rfl]
  congr 2
  push_cast
  ring

theorem two_pow_fracBits_lt_infBits : 2 ^ F.fracBits < F.infBits := by obtain rfl | rfl := hF <;> decide

theorem minNormal_lt_maxFinite : minNormal F < maxFinite F := by
  rw [maxFinite_eq_magVal hF, minNormal_eq_zpow, ← magVal_two_pow_fracBits]
  refine F.magVal_strictMono ?_
  obtain rfl | rfl := hF <;> decide

/-- The packed magnitude reaches infinity exactly when the value rounded to p digits, with no bound on the exponent, is
past the largest finite value (R625). -/
theorem infBits_le_packed_iff (m : RMode) (neg : Bool) {n : Nat} (hn : n ≠ 0) (e : Int) :
    F.infBits ≤ F.packed m neg n e ↔ maxFinite F < roundTo m neg n e (F.place n e) * 2 ^ F.place n e := by
  have hfrac := two_pow_fracBits_lt_infBits hF
  have hpos := FpFormat.infBits_pos hF
  rw [maxFinite_eq_magVal hF]
  obtain hle | hlt := le_or_gt F.qmin (F.place n e)
  · have hval := magVal_packed F m neg hn e
    rw [ulpExp_eq, max_eq_left hle] at hval
    rw [← hval, F.magVal_strictMono.lt_iff_lt]
    omega
  · have hsub : F.packed m neg n e ≤ 2 ^ F.fracBits := by
      rw [FpFormat.packed, ulpExp_eq, max_eq_right hlt.le, sub_self, Int.toNat_zero, Nat.zero_mul, Nat.zero_add]
      exact roundTo_qmin_le F m neg hn e hlt
    have hsmall : (roundTo m neg n e (F.place n e) : Rat) * 2 ^ F.place n e ≤ F.magVal (2 ^ F.fracBits) := by
      have hhigh : (roundTo m neg n e (F.place n e) : Rat) ≤ (2 ^ (F.fracBits + 1) : Nat) := by
        rw [Nat.pow_succ']
        exact_mod_cast (roundTo_place_bounds F m neg hn e).2
      rw [magVal_two_pow_fracBits]
      refine (mul_le_mul_of_nonneg_right hhigh (two_zpow_pos _).le).trans ?_
      rw [natCast_two_pow_mul_zpow, two_zpow_le_iff]
      rw [FpFormat.qmin] at hlt
      omega
    refine iff_of_false (by omega) (not_lt.2 (hsmall.trans ?_))
    exact F.magVal_strictMono.monotone (by omega)

end

/-- `tiny` is that rounding lying below the smallest normal (R624). -/
theorem tiny_iff (F : FpFormat) (m : RMode) (neg : Bool) {n : Nat} (hn : n ≠ 0) (e : Int) :
    F.tiny m neg n e = true ↔ roundTo m neg n e (F.place n e) * 2 ^ F.place n e < minNormal F := by
  have htiny : F.tiny m neg n e = (decide (F.place n e ≤ F.emin) &&
    decide (roundTo m neg n e (F.place n e) < 2 ^ (F.emin - F.place n e).toNat)) := rfl
  rw [htiny, Bool.and_eq_true, decide_eq_true_iff, decide_eq_true_iff, minNormal_eq_zpow]
  obtain hle | hlt := le_or_gt (F.place n e) F.emin
  · rw [and_iff_right hle, ← lt_div_iff₀ (two_zpow_pos _), ← zpow_sub₀ two_ne_zero,
      ← Int.toNat_of_nonneg (sub_nonneg.2 hle), zpow_natCast]
    exact_mod_cast Iff.rfl
  · refine iff_of_false (fun h => absurd h.1 (not_le.2 hlt)) (not_lt.2 ?_)
    have hlow : (1 : Rat) ≤ roundTo m neg n e (F.place n e) := by
      exact_mod_cast (Nat.two_pow_pos _).trans_le (roundTo_place_bounds F m neg hn e).1
    exact (two_zpow_le_iff.2 hlt.le).trans (le_mul_of_one_le_left (two_zpow_pos _).le hlow)

/-! ## The rounding of a nonzero value -/

/-- The bits of the flags of a result that does not overflow. -/
theorem roundFlags_bits : ∀ exact tiny : Bool, let fl : FpFlags := if exact then 0 else if tiny then 3 else 1
    fl &&& 4 = 0 ∧ (fl &&& 2 ≠ 0 ↔ fl &&& 1 ≠ 0 ∧ tiny = true) ∧ (fl &&& 1 = 0 ↔ exact = true) ∧ fl &&& 28 = 0 := by
  decide

theorem overflowBits_eq_signed (F : FpFormat) (m : RMode) (neg : Bool) :
    overflowBits F m neg = F.signed neg (F.overflowMag m neg) := by
  rw [← withSign_eq_signed]
  cases m <;> rfl

theorem mag_signedInt_mul (neg : Bool) (k : Nat) (q : Int) : mag ((signedInt neg k : Int) * 2 ^ q) = k * 2 ^ q := by
  rw [← ratOf_fin, mag_ratOf]

section
variable {F : FpFormat} (hF : IsFormat F) (m : RMode) (neg : Bool) {n : Nat} (hn : n ≠ 0) (e : Int)
include hF hn

/-- OF and UF, told by the rounding with no bound on the exponent. -/
theorem roundPack_OF_UF : let z := roundTo m neg n e (F.place n e) * (2 : Rat) ^ F.place n e
    ((F.roundPack m neg n e).flags &&& 4 ≠ 0 ↔ maxFinite F < z) ∧
    ((F.roundPack m neg n e).flags &&& 2 ≠ 0 ↔ (F.roundPack m neg n e).flags &&& 1 ≠ 0 ∧ z < minNormal F) := by
  intro z
  have hover := infBits_le_packed_iff hF m neg hn e
  obtain h | h := le_or_gt F.infBits (F.packed m neg n e)
  · have hz := hover.1 h
    rw [roundPack_of_overflow hn h]
    exact ⟨iff_of_true (by dsimp only; decide) hz,
      iff_of_false (by dsimp only; decide) fun hlt => lt_asymm (hz.trans hlt.2) (minNormal_lt_maxFinite hF)⟩
  · obtain ⟨hOF, hUF, -⟩ := roundFlags_bits (exactAt n e (F.ulpExp n e)) (F.tiny m neg n e)
    rw [roundPack_of_fits hn h, ← hover, ← tiny_iff F m neg hn e]
    exact ⟨iff_of_false (not_not.2 hOF) (not_le.2 h), hUF⟩

omit hF in
/-- Without overflow the result is the value rounded at its last place, with NX exactly when that is not exact. -/
theorem roundPack_value (h : (F.roundPack m neg n e).flags &&& 4 = 0) : ∃ n' e',
    F.decode (F.roundPack m neg n e).bits = .fin neg n' e' ∧
      ratOf (.fin neg n' e') = (signedInt neg (roundTo m neg n e (F.ulpExp n e)) : Int) * 2 ^ F.ulpExp n e ∧
      ((F.roundPack m neg n e).flags &&& 1 = 0 ↔ exactAt n e (F.ulpExp n e) = true) ∧
      (F.roundPack m neg n e).flags &&& 28 = 0 := by
  obtain hle | hlt := le_or_gt F.infBits (F.packed m neg n e)
  · rw [roundPack_of_overflow hn hle] at h
    exact absurd h (by dsimp only; decide)
  · obtain ⟨-, -, hNX, hflags⟩ := roundFlags_bits (exactAt n e (F.ulpExp n e)) (F.tiny m neg n e)
    obtain ⟨n', e', hd, hv⟩ := FpFormat.decode_signed neg hlt
    rw [roundPack_of_fits hn hlt]
    refine ⟨n', e', hd, ?_, hNX, hflags⟩
    rw [signedInt_mul_ratOf, ← ratOf_fin_false, hv, magVal_packed F m neg hn, signedInt_cast neg (roundTo ..),
      mul_assoc]

theorem isRounding_roundPack : IsRounding F m (ratOf (.fin neg n e)) (F.roundPack m neg n e) := by
  have hplace := isPlace_place F neg hn e
  have hround (q : Int) := roundsTo_roundTo m neg n e q
  unfold IsRounding
  rw [ratOf_neg_iff hn]
  refine ⟨fun q k hq hk => ?_, fun h => ?_, fun h => ?_⟩
  · rw [isPlace_unique hplace hq] at hk ⊢
    rw [roundsTo_unique hk (hround _), mag_signedInt_mul]
    exact roundPack_OF_UF hF m neg hn e
  · obtain hle | hlt := le_or_gt F.infBits (F.packed m neg n e)
    · rw [roundPack_of_overflow hn hle, overflowBits_eq_signed]
    · have := (roundPack_OF_UF hF m neg hn e).1.1 h
      exact absurd ((infBits_le_packed_iff hF m neg hn e).2 this) (not_le.2 hlt)
  · obtain ⟨n', e', hd, hv, hexact, hflags⟩ := roundPack_value m neg hn e h
    refine ⟨n', e', F.roundPack_lt .., hd, ?_, ?_, fun q k hq hk => ?_⟩
    · rw [hexact, exactAt_iff m neg, hv, eq_div_iff (two_zpow_pos _).ne']
    · generalize (F.roundPack m neg n e).flags = fl at hflags
      revert fl
      decide
    · rw [(isLastPlace_iff hplace q).1 hq] at hk ⊢
      rw [hv, ulpExp_eq, roundsTo_unique hk (hround _)]

end

theorem roundPack_zero (F : FpFormat) (m : RMode) (neg : Bool) (e : Int) :
    F.roundPack m neg 0 e = ⟨withSign F neg 0, 0⟩ := by
  rw [withSign_eq_signed]
  rfl

/-- Settles O41: the place and the rounded integer are determined by the value, and `roundPack` packs that integer. -/
theorem tiesOverflowAndUnderflow : Obligations.TiesOverflowAndUnderflow := by
  intro F m neg n e hF
  refine ⟨fun hn => ?_, fun hn => isRounding_roundPack hF m neg hn e⟩
  rw [hn, roundPack_zero]

end Sys2Proof.Machine
end

section
/-! SUPPORT. No representable value lies strictly between two neighbours at the last place of a value, so a value
rounded there is the best one of its format (O40). -/

namespace Sys2Proof.Machine

open Sys2Proof.Spec

/-! ## Between neighbours -/

/-- A representable value is an integer number of units of a place that is no finer than its own. -/
theorem exists_units {neg : Bool} {n : Nat} {e q : Int} (h : q ≤ e) :
    ∃ i : Int, ratOf (.fin neg n e) = i * 2 ^ q := by
  refine ⟨signedInt neg n * 2 ^ (e - q).toNat, ?_⟩
  rw [ratOf_fin, Int.cast_mul, Int.cast_pow, Int.cast_ofNat, ← zpow_natCast, Int.toNat_of_nonneg (sub_nonneg.2 h),
    mul_assoc, ← zpow_add₀ two_ne_zero, sub_add_cancel]

theorem ratOf_abs_lt {F : FpFormat} {neg : Bool} {n : Nat} {e q : Int} (hn : n < 2 ^ F.prec) (he : e < q) :
    -((2 ^ F.fracBits : Nat) * (2 : Rat) ^ q) < ratOf (.fin neg n e) ∧
      ratOf (.fin neg n e) < (2 ^ F.fracBits : Nat) * (2 : Rat) ^ q := by
  have hlt : (n : Rat) * 2 ^ e < (2 ^ F.fracBits : Nat) * 2 ^ q :=
    calc (n : Rat) * 2 ^ e < (2 ^ F.prec : Nat) * 2 ^ e :=
          mul_lt_mul_of_pos_right (by exact_mod_cast hn) (two_zpow_pos e)
      _ ≤ (2 ^ F.fracBits : Nat) * 2 ^ q := by
        rw [natCast_two_pow_mul_zpow, natCast_two_pow_mul_zpow, two_zpow_le_iff, FpFormat.prec]
        omega
  have hpos : (0 : Rat) ≤ n * 2 ^ e := mul_nonneg (Nat.cast_nonneg n) (two_zpow_pos e).le
  cases neg
  · rw [ratOf_fin_false]
    constructor <;> linarith
  · rw [ratOf_fin_true, ratOf_fin_false]
    constructor <;> linarith

/-- Above the least place a value has p digits. -/
theorem le_mag_of_isLastPlace {F : FpFormat} {v : Rat} {q : Int} (h : IsLastPlace F v q) (hq : F.qmin < q) :
    (2 ^ F.fracBits : Nat) * (2 : Rat) ^ q ≤ mag v := by
  have hleast : (3 : Int) - 2 ^ (F.expBits - 1) - F.prec = F.qmin := by
    rw [FpFormat.qmin, FpFormat.emin, FpFormat.prec]
    omega
  obtain ⟨-, h⟩ | ⟨h, -⟩ := h
  · rw [natCast_two_pow_mul_zpow]
    exact ((isPlace_iff F v q).1 h).1
  · omega

/-- Around a value that is not one of them, its neighbours at its last place leave a gap: inside it a finer
representable value would lie below the place's first p digits, where the value does not. -/
theorem representable_off_gap {F : FpFormat} {v : Rat} {q j : Int} (hq : IsLastPlace F v q)
    (hlow : (j : Rat) * 2 ^ q < v) (hhigh : v < (j + 1 : Int) * 2 ^ q) {p n : Nat} {neg : Bool} {e : Int}
    (hd : F.decode p = .fin neg n e) :
    ratOf (.fin neg n e) ≤ j * 2 ^ q ∨ ((j + 1 : Int) : Rat) * 2 ^ q ≤ ratOf (.fin neg n e) := by
  have hpos := two_zpow_pos q
  obtain ⟨-, -, -, hn, he⟩ := FpFormat.of_decode_fin hd
  by_contra! hgap
  obtain ⟨hgt, hlt⟩ := hgap
  obtain hqe | hqe := le_or_gt q e
  · obtain ⟨i, hi⟩ := exists_units (neg := neg) (n := n) hqe
    rw [hi, mul_lt_mul_iff_left₀ hpos, Int.cast_lt] at hgt hlt
    omega
  · obtain ⟨hy, hy'⟩ := ratOf_abs_lt (neg := neg) hn hqe
    have hmag := le_mag_of_isLastPlace hq (lt_of_le_of_lt he hqe)
    generalize 2 ^ F.fracBits = N at hy hy' hmag
    rw [Spec.mag] at hmag
    split at hmag
    · have : (j : Rat) * 2 ^ q < (-N : Int) * 2 ^ q := by push_cast; linarith
      rw [mul_lt_mul_iff_left₀ hpos, Int.cast_lt] at this
      have : ((j + 1 : Int) : Rat) * 2 ^ q ≤ (-N : Int) * 2 ^ q := by
        rw [mul_le_mul_iff_left₀ hpos, Int.cast_le]
        omega
      push_cast at this hlt
      linarith
    · have : ((N : Int) : Rat) * 2 ^ q < (j + 1 : Int) * 2 ^ q := by push_cast at hhigh ⊢; linarith
      rw [mul_lt_mul_iff_left₀ hpos, Int.cast_lt] at this
      have : ((N : Int) : Rat) * 2 ^ q ≤ j * 2 ^ q := by
        rw [mul_le_mul_iff_left₀ hpos, Int.cast_le]
        omega
      push_cast at this hgt
      linarith

/-! ## The best value -/

/-- `best` lies on the side of v the mode asks for, or nearest to it, and `other` no better: what `Rounded` asks. -/
def NoBetter (m : RMode) (best v other : Rat) : Prop :=
  match m with
  | .rdn => best ≤ v ∧ (other ≤ v → other ≤ best)
  | .rup => v ≤ best ∧ (v ≤ other → best ≤ other)
  | .rtz => (0 ≤ v → 0 ≤ best ∧ best ≤ v ∧ (other ≤ v → other ≤ best)) ∧
      (v ≤ 0 → best ≤ 0 ∧ v ≤ best ∧ (v ≤ other → best ≤ other))
  | .rne | .rmm => (best - v ≤ other - v ∨ best - v ≤ v - other) ∧ (v - best ≤ other - v ∨ v - best ≤ v - other)

theorem noBetter_self (m : RMode) (v other : Rat) : NoBetter m v v other := by
  cases m <;> simp [NoBetter, le_total]

theorem noBetter_mul {m : RMode} {best v other s : Rat} (hs : 0 < s) (h : NoBetter m best v other) :
    NoBetter m (best * s) (v * s) (other * s) := by
  have hnonpos (x : Rat) : x * s ≤ 0 ↔ x ≤ 0 := by rw [← not_lt, mul_pos_iff_of_pos_right hs, not_lt]
  cases m <;> simpa only [NoBetter, ← sub_mul, mul_le_mul_iff_left₀ hs, mul_nonneg_iff_of_pos_right hs, hnonpos] using h

/-- The value rounded to an integer is no worse than what lies outside the gap around the value. -/
theorem noBetter_of_roundsTo {m : RMode} {v other : Rat} {k j : Int} (hk : RoundsTo m v k) (hlow : (j : Rat) < v)
    (hhigh : v < (j + 1 : Int)) (ho : other ≤ j ∨ ((j + 1 : Int) : Rat) ≤ other) : NoBetter m k v other := by
  have hjk : k = j ∨ k = j + 1 := by
    have h1 := roundsTo_le_of_le hk hlow.le
    have h2 := roundsTo_ge_of_ge hk hhigh.le
    omega
  have hj (h : 0 ≤ v) : (0 : Rat) ≤ j := by
    have : (0 : Rat) < (j + 1 : Int) := h.trans_lt hhigh
    exact_mod_cast Int.lt_add_one_iff.1 (by exact_mod_cast this)
  have hj' (h : v ≤ 0) : ((j + 1 : Int) : Rat) ≤ 0 := by
    have : (j : Rat) < 0 := hlow.trans_le h
    exact_mod_cast Int.add_one_le_iff.2 (by exact_mod_cast this)
  push_cast at hhigh ho hj'
  obtain rfl | rfl := hjk
  · cases m <;> simp only [RoundsTo, NoBetter] at hk ⊢ <;> grind
  · push_cast at hk ⊢
    cases m <;> simp only [RoundsTo, NoBetter] at hk ⊢ <;> grind

/-- A value rounded at its last place is no worse than any representable one. -/
theorem noBetter_of_isLastPlace {F : FpFormat} {m : RMode} {v : Rat} {q k : Int} (hq : IsLastPlace F v q)
    (hk : RoundsTo m (v / 2 ^ q) k) {p n : Nat} {neg : Bool} {e : Int} (hd : F.decode p = .fin neg n e) :
    NoBetter m (k * 2 ^ q) v (ratOf (.fin neg n e)) := by
  have hpos := two_zpow_pos q
  have hv : v / 2 ^ q * 2 ^ q = v := div_mul_cancel₀ v hpos.ne'
  obtain heq | hlt := eq_or_lt_of_le (Int.floor_le (v / 2 ^ q))
  · rw [← heq] at hk hv
    rw [roundsTo_unique hk (roundsTo_intCast m _), hv]
    exact noBetter_self m v _
  · have hhigh : v / 2 ^ q < (⌊v / 2 ^ q⌋ + 1 : Int) := by
      push_cast
      exact Int.lt_floor_add_one _
    have hgap := representable_off_gap hq (by rwa [← lt_div_iff₀ hpos]) (by rwa [← div_lt_iff₀ hpos]) hd
    rw [← le_div_iff₀ hpos, ← div_le_iff₀ hpos] at hgap
    have h := noBetter_mul hpos (noBetter_of_roundsTo hk hlt hhigh hgap)
    rwa [hv, div_mul_cancel₀ _ hpos.ne'] at h

theorem rounded_of_noBetter {F : FpFormat} {m : RMode} {neg : Bool} {v : Rat} {r : FpResult} {n : Nat} {e : Int}
    (hd : F.decode r.bits = .fin neg n e) (hNX : r.flags &&& 1 = 0 ↔ ratOf (.fin neg n e) = v)
    (hfl : r.flags &&& 28 = 0)
    (h : ∀ p neg' n' e', F.decode p = .fin neg' n' e' → NoBetter m (ratOf (.fin neg n e)) v (ratOf (.fin neg' n' e'))) :
    Rounded F m neg v r := by
  refine ⟨n, e, hd, hNX, hfl, fun p neg' n' e' hp => ?_⟩
  have := h p neg' n' e' hp
  cases m <;> exact this

theorem ratOf_fin_zero (neg : Bool) (e : Int) : ratOf (.fin neg 0 e) = 0 := by
  rw [ratOf, Nat.cast_zero, mul_zero, zero_mul]

/-- A zero of a sign decodes to it. -/
theorem decode_withSign_zero {F : FpFormat} (hF : IsFormat F) (neg : Bool) :
    ∃ n e, F.decode (withSign F neg 0) = .fin neg n e ∧ ratOf (.fin neg n e) = 0 := by
  obtain ⟨n, e, hd, hv⟩ := FpFormat.decode_signed neg (FpFormat.infBits_pos hF)
  rw [F.magVal_zero] at hv
  refine ⟨n, e, (withSign_eq_signed F neg 0).symm ▸ hd, ?_⟩
  cases neg
  · exact hv
  · rw [ratOf_fin_true, hv, neg_zero]

/-- Settles O40: without overflow the result is the value rounded at its last place. -/
theorem roundingIsCorrect : Obligations.RoundingIsCorrect := by
  intro F m neg n e hF h
  by_cases hn : n = 0
  · obtain ⟨n', e', hd, hv⟩ := decode_withSign_zero hF neg
    rw [hn, roundPack_zero, ratOf_fin_zero]
    refine rounded_of_noBetter hd (iff_of_true (by dsimp only; decide) hv) (by dsimp only; decide)
      fun p neg' n'' e'' _ => ?_
    rw [hv]
    exact noBetter_self m 0 _
  · obtain ⟨n', e', hd, hv, hNX, hfl⟩ := roundPack_value m neg hn e h
    refine rounded_of_noBetter hd ?_ hfl fun p neg' n'' e'' hp => ?_
    · rw [hNX, exactAt_iff m neg, hv, eq_div_iff (two_zpow_pos _).ne']
    · have hlast := (isLastPlace_iff (isPlace_place F neg hn e) (F.ulpExp n e)).2 rfl
      rw [hv]
      exact noBetter_of_isLastPlace hlast (roundsTo_roundTo m neg n e _) hp

end Sys2Proof.Machine
end

section
/-! SUPPORT. Sums, products, fused multiply-adds and conversions are their exact value rounded once (O42, O48). -/

namespace Sys2Proof.Machine

open Sys2Proof.Spec

/-! ## Exact sums and products -/

theorem ratOf_negate (neg : Bool) (n : Nat) (e : Int) : ratOf (.fin (!neg) n e) = -ratOf (.fin neg n e) := by
  cases neg
  · exact ratOf_fin_true n e
  · rw [ratOf_fin_true, neg_neg]
    rfl

theorem ratOf_mul (n₁ n₂ : Bool) (m₁ m₂ : Nat) (e₁ e₂ : Int) :
    ratOf (.fin (n₁ != n₂) (m₁ * m₂) (e₁ + e₂)) = ratOf (.fin n₁ m₁ e₁) * ratOf (.fin n₂ m₂ e₂) := by
  have hfalse : ratOf (.fin false (m₁ * m₂) (e₁ + e₂)) = ratOf (.fin false m₁ e₁) * ratOf (.fin false m₂ e₂) := by
    rw [ratOf_fin_false, ratOf_fin_false, ratOf_fin_false, zpow_add₀ two_ne_zero]
    push_cast
    ring
  cases n₁ <;> cases n₂ <;> simp only [bne_self_eq_false, Bool.bne_true, Bool.bne_false, Bool.not_false, ratOf_fin_true,
    hfalse, neg_mul, mul_neg, neg_neg]

/-- An integer t times 2^e, by its sign and magnitude. -/
theorem ratOf_natAbs (t e : Int) : ratOf (.fin (decide (t < 0)) t.natAbs e) = t * 2 ^ e := by
  have hsign : signedInt (decide (t < 0)) t.natAbs = t := by
    by_cases h : t < 0
    · rw [decide_eq_true h, signedInt, if_pos rfl]
      omega
    · rw [decide_eq_false h, signedInt, if_neg Bool.false_ne_true]
      omega
  rw [ratOf_fin, hsign]

theorem signedInt_mul_two_pow (neg : Bool) (n : Nat) {e q : Int} (h : q ≤ e) :
    ((signedInt neg (n * 2 ^ (e - q).toNat) : Int) : Rat) * 2 ^ q = ratOf (.fin neg n e) := by
  rw [signedInt_cast, signedInt_mul_ratOf, Nat.cast_mul, Nat.cast_pow, Nat.cast_ofNat, ← zpow_natCast,
    Int.toNat_of_nonneg (sub_nonneg.2 h), mul_assoc, mul_assoc, ← zpow_add₀ two_ne_zero, sub_add_cancel]

/-! ## Rounded once -/

theorem decide_lt_of_eq {v : Rat} {t e : Int} (h : v = t * 2 ^ e) : decide (v < 0) = decide (t < 0) := by
  have : v < 0 ↔ t < 0 := by
    rw [h, ← not_le, mul_nonneg_iff_of_pos_right (two_zpow_pos e), not_le]
    exact_mod_cast Iff.rfl
  simp only [this]

theorem ratOf_fin_ne_zero {n : Nat} (hn : n ≠ 0) (neg : Bool) (e : Int) : ratOf (.fin neg n e) ≠ 0 := fun h => by
  have hmag := mag_ratOf neg n e
  rw [h, Spec.mag, if_neg (lt_irrefl 0), eq_comm, mul_eq_zero, or_iff_left (two_zpow_pos e).ne',
    Nat.cast_eq_zero] at hmag
  exact hn hmag

theorem oneRounding_roundPack {F : FpFormat} {m : RMode} {neg : Bool} {n : Nat} {e : Int} {v : Rat}
    (hv : v = ratOf (.fin neg n e)) : OneRounding F m neg v (F.roundPack m neg n e) := by
  subst hv
  by_cases hn : n = 0
  · rw [hn, roundPack_zero, ratOf_fin_zero]
    exact ⟨fun _ => rfl, fun h => absurd rfl h⟩
  · refine ⟨fun h => absurd h (ratOf_fin_ne_zero hn neg e), fun _ => ⟨n, e, ?_, ?_⟩⟩
    · rw [ratOf_neg_iff hn]
    · rw [ratOf_neg_iff hn]

theorem oneRounding_sumFin (F : FpFormat) (m : RMode) (n₁ n₂ : Bool) (m₁ m₂ : Nat) (e₁ e₂ : Int) :
    OneRounding F m (zeroSumNeg m n₁ n₂) (ratOf (.fin n₁ m₁ e₁) + ratOf (.fin n₂ m₂ e₂))
      (F.sumFin m n₁ m₁ e₁ n₂ m₂ e₂) := by
  unfold FpFormat.sumFin
  have hv := congrArg₂ (· + ·) (signedInt_mul_two_pow n₁ m₁ (min_le_left e₁ e₂))
    (signedInt_mul_two_pow n₂ m₂ (min_le_right e₁ e₂))
  dsimp only at hv ⊢
  rw [← add_mul, ← Int.cast_add] at hv
  generalize signedInt n₁ _ + signedInt n₂ _ = t at hv ⊢
  split
  · next ht =>
    subst ht
    rw [Int.cast_zero, zero_mul] at hv
    refine ⟨fun _ => ?_, fun h => absurd hv.symm h⟩
    rw [withSign_eq_signed, zeroSumNeg]
    cases m <;> rfl
  · next ht =>
    rw [← hv]
    refine ⟨fun h => ?_, fun _ => ⟨t.natAbs, min e₁ e₂, ?_, ?_⟩⟩
    · rw [mul_eq_zero, or_iff_left (two_zpow_pos _).ne', Int.cast_eq_zero] at h
      exact absurd h ht
    · rw [decide_lt_of_eq rfl, ratOf_natAbs]
    · rw [decide_lt_of_eq rfl]

/-- Settles O42: at the lesser exponent the sum is exact, and the product is exact at the sum of the exponents. -/
theorem exactThenRounded : Obligations.ExactThenRounded := by
  intro F m a b c na nb nc ma mb mc ea eb ec ha hb hc A B C
  have hprod := ratOf_mul na nb ma mb ea eb
  have hsum := oneRounding_sumFin F m
  refine ⟨?_, ?_, ?_, ?_, ?_, ?_, ?_⟩
  · rw [FpFormat.add, ha, hb]
    exact hsum ..
  · rw [FpFormat.sub, ha, hb, sub_eq_add_neg, ← ratOf_negate]
    exact hsum ..
  · rw [FpFormat.mul, ha, hb]
    exact oneRounding_roundPack hprod.symm
  · rw [FpFormat.fma, ha, hb, hc, ← hprod]
    exact hsum ..
  · rw [FpFormat.fma, ha, hb, hc, ← hprod, sub_eq_add_neg, ← ratOf_negate]
    exact hsum ..
  · rw [FpFormat.fma, ha, hb, hc, ← hprod, ← ratOf_negate]
    exact hsum ..
  · rw [FpFormat.fma, ha, hb, hc, ← hprod, sub_eq_add_neg, ← ratOf_negate, ← ratOf_negate]
    exact hsum ..

/-! ## Values well inside the normal range -/

theorem magVal_infBits {F : FpFormat} (hF : IsFormat F) :
    F.magVal F.infBits = 2 ^ ((2 ^ (F.expBits - 1) : Nat) : Int) := by
  obtain ⟨B, hB, hE, hinf, hq⟩ := FpFormat.exists_half hF
  obtain ⟨j, rfl⟩ : ∃ j, B = j + 1 := ⟨B - 1, by omega⟩
  rw [hE, hinf, show 2 * (j + 1) - 1 = 2 * j + 1 by omega, Nat.succ_mul, F.magVal_pack (.inr le_rfl) (by omega), hq,
    natCast_two_pow_mul_zpow]
  congr 1
  push_cast
  ring

section
variable {F : FpFormat} (hF : IsFormat F) {n : Nat} (hn : n ≠ 0) {e : Int}
include hF hn

/-- Away from both ends of the exponents a rounding sets no flag but NX. -/
theorem roundPack_flags_of_place (m : RMode) (neg : Bool) (hlow : F.qmin ≤ F.place n e)
    (hhigh : F.place n e + F.fracBits + 2 ≤ (2 ^ (F.expBits - 1) : Nat)) :
    (F.roundPack m neg n e).flags = if exactAt n e (F.ulpExp n e) then 0 else 1 := by
  obtain ⟨B, hB, hE, hinf, hq⟩ := FpFormat.exists_half hF
  obtain ⟨hK, hK'⟩ := roundTo_place_bounds F m neg hn e
  have hfits : F.packed m neg n e < F.infBits := by
    have hj : (F.place n e - F.qmin).toNat + 3 ≤ 2 * B - 1 := by omega
    have := Nat.mul_le_mul_right (2 ^ F.fracBits) hj
    rw [FpFormat.packed, ulpExp_eq, max_eq_left hlow, hinf]
    rw [Nat.add_mul] at this
    have := Nat.two_pow_pos F.fracBits
    omega
  have htiny : F.tiny m neg n e = false := by
    rw [← Bool.not_eq_true, tiny_iff F m neg hn, not_lt, minNormal_eq_zpow]
    calc (2 : Rat) ^ F.emin ≤ (2 ^ F.fracBits : Nat) * 2 ^ F.place n e := by
          rw [natCast_two_pow_mul_zpow, two_zpow_le_iff]
          rw [FpFormat.qmin] at hlow
          omega
      _ ≤ _ := mul_le_mul_of_nonneg_right (by exact_mod_cast hK) (two_zpow_pos _).le
  rw [roundPack_of_fits hn hfits, htiny]
  rfl

/-- A value that has its digits there is given exactly. -/
theorem roundPack_exact (m : RMode) (neg : Bool) (hlow : F.qmin ≤ F.place n e)
    (hhigh : F.place n e + F.fracBits + 2 ≤ (2 ^ (F.expBits - 1) : Nat)) (he : F.place n e ≤ e) :
    (F.roundPack m neg n e).flags = 0 ∧ ∃ n' e', F.decode (F.roundPack m neg n e).bits = .fin neg n' e' ∧
      ratOf (.fin neg n' e') = ratOf (.fin neg n e) := by
  have hexact : exactAt n e (F.ulpExp n e) = true := by
    rw [ulpExp_eq, max_eq_left hlow]
    exact if_pos he
  have hflags := roundPack_flags_of_place hF hn m neg hlow hhigh
  rw [hexact, if_pos rfl] at hflags
  refine ⟨hflags, ?_⟩
  obtain ⟨n', e', hd, hv, -, -⟩ := roundPack_value m neg hn e (by rw [hflags]; decide)
  refine ⟨n', e', hd, ?_⟩
  rw [hv, (exactAt_iff m neg n e _).1 hexact, div_mul_cancel₀ _ (two_zpow_pos _).ne']

end

theorem bitLength_le {n k : Nat} (h : n < 2 ^ k) : bitLength n ≤ k := by
  by_cases hn : n = 0
  · subst hn
    exact Nat.zero_le k
  · obtain ⟨hlow, -, hpos⟩ := bitLength_bounds hn
    have := (Nat.pow_lt_pow_iff_right (by decide : 1 < 2)).1 (hlow.trans_lt h)
    omega

/-- The finite nonzero values of a format. -/
theorem bounds_of_decode {F : FpFormat} {v n : Nat} {neg : Bool} {e : Int} (h : F.decode v = .fin neg n e)
    (hF : IsFormat F) (hn : n ≠ 0) :
    (2 : Rat) ^ F.qmin ≤ n * 2 ^ e ∧ (n : Rat) * 2 ^ e < 2 ^ ((2 ^ (F.expBits - 1) : Nat) : Int) := by
  obtain ⟨hlt, -, hv, -, he⟩ := FpFormat.of_decode_fin h
  have hmax := F.magVal_strictMono hlt
  rw [← hv, magVal_infBits hF, ratOf_fin_false] at hmax
  have hone : (1 : Rat) ≤ n := by exact_mod_cast Nat.one_le_iff_ne_zero.2 hn
  exact ⟨(two_zpow_le_iff.2 he).trans (le_mul_of_one_le_left (two_zpow_pos e).le hone), hmax⟩

/-- The place of such a value in another format. -/
theorem place_bounds_of_decode {F : FpFormat} {v n : Nat} {neg : Bool} {e : Int} (h : F.decode v = .fin neg n e)
    (hF : IsFormat F) (hn : n ≠ 0) (G : FpFormat) :
    F.qmin < G.place n e + G.prec ∧ G.place n e + G.fracBits < (2 ^ (F.expBits - 1) : Nat) := by
  obtain ⟨hmin, hmax⟩ := bounds_of_decode h hF hn
  have hplace := (isPlace_iff G _ _).1 (isPlace_place G false hn e)
  rw [mag_ratOf] at hplace
  have h1 := two_zpow_lt_iff.1 (hmin.trans_lt hplace.2)
  have h2 := two_zpow_lt_iff.1 (hplace.1.trans_lt hmax)
  rw [FpFormat.prec]
  omega

/-! ## Conversions -/

theorem convert_fin {F : FpFormat} {v n : Nat} {neg : Bool} {e : Int} (h : F.decode v = .fin neg n e) (G : FpFormat)
    (m : RMode) : F.convert G m v = G.roundPack m neg n e := by rw [FpFormat.convert, h]

theorem ofInt_oneRounding (F : FpFormat) (m : RMode) (k : Int) : OneRounding F m false k (F.ofInt m k) := by
  have h : OneRounding F m (decide (k < 0)) k (F.ofInt m k) :=
    oneRounding_roundPack (by rw [ratOf_natAbs, zpow_zero, mul_one])
  by_cases hk : k = 0
  · subst hk
    exact h
  · exact ⟨fun h0 => absurd (Int.cast_eq_zero.1 h0) hk, h.2⟩

/-- A value of at most 53 digits in the range of doubles becomes a double exactly. -/
theorem roundPack_binary64_exact (m : RMode) (neg : Bool) {n : Nat} {e : Int} (hn : n < 2 ^ 53)
    (hrange : n ≠ 0 → -1074 ≤ binary64.place n e ∧ binary64.place n e ≤ 970) :
    (binary64.roundPack m neg n e).flags = 0 ∧
      ∃ k q, binary64.decode (binary64.roundPack m neg n e).bits = .fin neg k q ∧
        ratOf (.fin neg k q) = ratOf (.fin neg n e) := by
  have hF : IsFormat binary64 := .inr rfl
  by_cases h0 : n = 0
  · subst h0
    rw [roundPack_zero, ratOf_fin_zero]
    exact ⟨rfl, decode_withSign_zero hF neg⟩
  · obtain ⟨hlow, hhigh⟩ := hrange h0
    have hlen := bitLength_le hn
    refine roundPack_exact hF h0 m neg hlow ?_ ?_
    · change binary64.place n e + 52 + 2 ≤ 1024
      omega
    · change (bitLength n : Int) + e - 53 ≤ e
      omega

/-- A finite single becomes a double exactly. -/
theorem widening_exact {v n : Nat} {neg : Bool} {e : Int} (h : binary32.decode v = .fin neg n e) (m : RMode) :
    (binary64.roundPack m neg n e).flags = 0 ∧
      ∃ k q, binary64.decode (binary64.roundPack m neg n e).bits = .fin neg k q ∧
        ratOf (.fin neg k q) = ratOf (.fin neg n e) := by
  obtain ⟨-, -, -, hn, -⟩ := FpFormat.of_decode_fin h
  refine roundPack_binary64_exact m neg (hn.trans (by decide)) fun h0 => ?_
  have hrange : -149 < binary64.place n e + 53 ∧ binary64.place n e + 52 < 128 :=
    place_bounds_of_decode h (.inl rfl) h0 binary64
  omega

/-- An integer of 32 bits, signed or not, becomes a double exactly. -/
theorem ofInt_exact {k : Int} (hlow : -2 ^ 31 ≤ k) (hhigh : k < 2 ^ 32) (m : RMode) : (binary64.ofInt m k).flags = 0 ∧
    ∃ n e, binary64.decode (binary64.ofInt m k).bits = .fin (decide (k < 0)) n e ∧
      ratOf (.fin (decide (k < 0)) n e) = (k : Rat) := by
  have hv : ratOf (.fin (decide (k < 0)) k.natAbs 0) = k := by rw [ratOf_natAbs, zpow_zero, mul_one]
  have hn : k.natAbs < 2 ^ 32 := by omega
  have hlen := bitLength_le hn
  rw [FpFormat.ofInt, ← hv]
  refine roundPack_binary64_exact m _ (hn.trans (by decide)) fun _ => ?_
  change -1074 ≤ (bitLength k.natAbs : Int) + 0 - 53 ∧ (bitLength k.natAbs : Int) + 0 - 53 ≤ 970
  omega

/-- Settles O48: a conversion is one rounding, exact where the digits fit the destination. -/
theorem conversionsToFloat : Obligations.ConversionsToFloat := by
  intro m
  refine ⟨fun v _ => ?widen, fun v _ => ?narrow, fun F k _ => ofInt_oneRounding F m k, fun k hlow hhigh => ?int⟩
  case widen =>
    split
    · next hd => rw [FpFormat.convert, hd]; rfl
    · next hd =>
      rw [FpFormat.convert, hd, withSign_eq_signed]
      rfl
    · next hd =>
      rw [convert_fin hd]
      exact widening_exact hd m
  case narrow =>
    split
    · next hd => rw [FpFormat.convert, hd]; rfl
    · next hd =>
      rw [FpFormat.convert, hd, withSign_eq_signed]
      rfl
    · next hd =>
      rw [convert_fin hd]
      exact oneRounding_roundPack rfl
  case int => exact ofInt_exact hlow hhigh m

end Sys2Proof.Machine
end

section
/-! SUPPORT. A value cut off below enough digits, with one more bit that is 1 when digits were cut off, rounds as the
exact value does: the two lie the same way to every multiple of the last digit kept. From this the quotient (O43). -/

namespace Sys2Proof.Machine

open Sys2Proof.Spec

/-! ## Values that lie the same way to every multiple of a unit -/

/-- v and v' lie the same way to every multiple of u. -/
def AgreeAt (u v v' : Rat) : Prop := ∀ t : Int, ((t : Rat) * u ≤ v ↔ t * u ≤ v') ∧ (v ≤ t * u ↔ v' ≤ t * u)

theorem agreeAt_neg {u v v' : Rat} (h : AgreeAt u v v') : AgreeAt u (-v) (-v') := fun t => by
  obtain ⟨h1, h2⟩ := h (-t)
  push_cast at h1 h2
  rw [neg_mul] at h1 h2
  exact ⟨le_neg.trans (h2.trans le_neg), neg_le.trans (h1.trans neg_le)⟩

theorem agreeAt_neg_iff {u v v' : Rat} (h : AgreeAt u v v') : v < 0 ↔ v' < 0 := by
  have := (h 0).1
  rw [Int.cast_zero, zero_mul] at this
  rw [← not_le, ← not_le, this]

theorem eq_iff_of_agreeAt {u v v' : Rat} (h : AgreeAt u v v') {t : Int} : (t : Rat) * u = v ↔ t * u = v' := by
  rw [le_antisymm_iff, le_antisymm_iff, (h t).1, (h t).2]

theorem agreeAt_mag {u v v' : Rat} (h : AgreeAt u v v') : AgreeAt u (mag v) (mag v') := by
  rw [Spec.mag, Spec.mag]
  by_cases hv : v < 0
  · rw [if_pos hv, if_pos ((agreeAt_neg_iff h).1 hv)]
    exact agreeAt_neg h
  · rw [if_neg hv, if_neg (mt (agreeAt_neg_iff h).2 hv)]
    exact h

/-- A power of two from the unit up is so many units. -/
theorem exists_two_zpow_eq {e q : Int} (h : e ≤ q) : ∃ t : Nat, (2 : Rat) ^ q = t * 2 ^ e := by
  refine ⟨2 ^ (q - e).toNat, ?_⟩
  rw [natCast_two_pow_mul_zpow]
  congr 1
  omega

theorem agreeAt_coarser {e q : Int} (h : e ≤ q) {v v' : Rat} (ha : AgreeAt (2 ^ e) v v') :
    AgreeAt (2 ^ q) v v' := fun t => by
  obtain ⟨k, hk⟩ := exists_two_zpow_eq h
  have := ha (t * k)
  rw [Int.cast_mul, Int.cast_natCast, mul_assoc] at this
  rwa [hk]

/-- Values on the same side of every half integer round alike. -/
theorem roundsTo_congr {v v' : Rat} (h : AgreeAt (1 / 2) v v') (m : RMode) (k : Int) :
    RoundsTo m v k ↔ RoundsTo m v' k := by
  have hzero := h 0
  have hself := h (2 * k)
  have hmidAbove := h (2 * k + 1)
  have hmidBelow := h (2 * k - 1)
  have habove := h (2 * (k + 1))
  have hbelow := h (2 * (k - 1))
  push_cast at hzero hself hmidAbove hmidBelow habove hbelow
  cases m <;> simp only [RoundsTo]
  case rne => clear hzero hself habove hbelow; grind
  case rtz => clear hmidAbove hmidBelow; grind
  case rdn => clear hzero hmidAbove hmidBelow hbelow; grind
  case rup => clear hzero hmidAbove hmidBelow habove; grind
  case rmm => clear hself habove hbelow; grind

theorem agreeAt_div {s u v v' : Rat} (hs : 0 < s) (h : AgreeAt (u * s) v v') : AgreeAt u (v / s) (v' / s) := fun t => by
  have := h t
  rw [← mul_assoc] at this
  rwa [le_div_iff₀ hs, le_div_iff₀ hs, div_le_iff₀ hs, div_le_iff₀ hs]

theorem roundsTo_congr_of_agreeAt {e q : Int} (hq : e < q) {v v' : Rat} (h : AgreeAt (2 ^ e) v v') (m : RMode)
    (k : Int) : RoundsTo m (v / 2 ^ q) k ↔ RoundsTo m (v' / 2 ^ q) k := by
  refine roundsTo_congr (agreeAt_div (two_zpow_pos q) ?_) m k
  rw [show (1 / 2 : Rat) * 2 ^ q = 2 ^ (q - 1) by rw [zpow_sub_one₀ two_ne_zero]; ring]
  exact agreeAt_coarser (by omega) h

theorem isPlace_congr {F : FpFormat} {e q : Int} (hq : e ≤ q) {v v' : Rat} (h : AgreeAt (2 ^ e) v v') :
    IsPlace F v q ↔ IsPlace F v' q := by
  have hmag := agreeAt_mag (agreeAt_coarser hq h)
  have hlow := (hmag (2 ^ F.fracBits : Nat)).1
  have hhigh := (hmag (2 ^ (F.fracBits + 1) : Nat)).1
  rw [Int.cast_natCast, natCast_two_pow_mul_zpow] at hlow hhigh
  rw [isPlace_iff, isPlace_iff, hlow, ← not_le, ← not_le, add_assoc]
  exact and_congr_right fun _ => not_congr hhigh

/-! ## Rounding from enough digits -/

section
variable {F : FpFormat} {n : Nat} (hn : 2 ^ (F.prec + 2) ≤ n) {e : Int} {neg : Bool} {v : Rat}
  (h : AgreeAt (2 ^ (e + 1)) v (ratOf (.fin neg n e)))
include hn

theorem ne_zero_of_digits : n ≠ 0 := fun h0 => by
  have := Nat.two_pow_pos (F.prec + 2)
  omega

/-- p + 3 digits put the place of the value two digits above its own. -/
theorem lt_place_of_digits : e + 1 < F.place n e := by
  obtain ⟨-, hhigh, -⟩ := bitLength_bounds (ne_zero_of_digits hn)
  have := (Nat.pow_lt_pow_iff_right (by decide : 1 < 2)).1 (hn.trans_lt hhigh)
  rw [FpFormat.place]
  omega

theorem lt_ulpExp_of_digits : e + 1 < F.ulpExp n e := (lt_place_of_digits hn).trans_le (le_max_left _ _)

include h

theorem decide_neg_of_agreeAt : decide (v < 0) = neg := by
  rw [← ratOf_neg_iff (ne_zero_of_digits hn) neg e]
  exact decide_eq_decide.2 (agreeAt_neg_iff h)

theorem isPlace_of_agreeAt : IsPlace F v (F.place n e) :=
  (isPlace_congr (lt_place_of_digits hn).le h).2 (isPlace_place F neg (ne_zero_of_digits hn) e)

theorem isLastPlace_of_agreeAt : IsLastPlace F v (F.ulpExp n e) := (isLastPlace_iff (isPlace_of_agreeAt hn h) _).2 rfl

theorem roundsTo_of_agreeAt (m : RMode) :
    RoundsTo m (v / 2 ^ F.ulpExp n e) (signedInt neg (roundTo m neg n e (F.ulpExp n e))) :=
  (roundsTo_congr_of_agreeAt (lt_ulpExp_of_digits hn) h m _).2 (roundsTo_roundTo ..)

/-- The rounding of the digits is that of the exact value. -/
theorem isRounding_of_agreeAt (hF : IsFormat F) (m : RMode) : IsRounding F m v (F.roundPack m neg n e) := by
  have hn0 := ne_zero_of_digits hn
  have hplace := isPlace_of_agreeAt hn h
  have hplace' := isPlace_place F neg hn0 e
  have hlt := lt_place_of_digits hn (e := e)
  have hround := isRounding_roundPack hF m neg hn0 e
  unfold IsRounding at hround ⊢
  rw [ratOf_neg_iff hn0] at hround
  rw [decide_neg_of_agreeAt hn h]
  obtain ⟨hplaces, hover, hfits⟩ := hround
  refine ⟨fun q k hq hk => ?_, hover, fun hOF => ?_⟩
  · obtain rfl := isPlace_unique hplace hq
    exact hplaces _ k hplace' ((roundsTo_congr_of_agreeAt hlt h m k).1 hk)
  · obtain ⟨n', e', hlt', hd, hNX, hfl, hval⟩ := hfits hOF
    have hulp := lt_ulpExp_of_digits hn (e := e)
    have hv := hval (F.ulpExp n e) _ ((isLastPlace_iff hplace' _).2 rfl) (roundsTo_roundTo ..)
    refine ⟨n', e', hlt', hd, ?_, hfl, fun q k hq hk => ?_⟩
    · rw [hNX, hv, eq_iff_of_agreeAt (agreeAt_coarser hulp.le h)]
    · rw [(isLastPlace_iff hplace q).1 hq] at hk ⊢
      exact hval _ k ((isLastPlace_iff hplace' _).2 rfl) ((roundsTo_congr_of_agreeAt hulp h m k).1 hk)

/-- Without overflow no representable value lies better than the rounding of the digits. -/
theorem rounded_of_agreeAt (m : RMode) (hOF : (F.roundPack m neg n e).flags &&& 4 = 0) :
    Rounded F m neg v (F.roundPack m neg n e) := by
  have hn0 := ne_zero_of_digits hn
  obtain ⟨n', e', hd, hv, hNX, hfl⟩ := roundPack_value m neg hn0 e hOF
  refine rounded_of_noBetter hd ?_ hfl fun p neg' n'' e'' hp => ?_
  · rw [hNX, exactAt_iff m neg, hv, eq_div_iff (two_zpow_pos _).ne',
      eq_iff_of_agreeAt (agreeAt_coarser (lt_ulpExp_of_digits hn).le h)]
  · rw [hv]
    exact noBetter_of_isLastPlace (isLastPlace_of_agreeAt hn h) (roundsTo_of_agreeAt hn h m) hp

end

/-! ## Quotients -/

/-- The digits kept and the bit below them, as a number of units: the bit stands for a half. -/
theorem natCast_sticky (q : Nat) (exact : Prop) [Decidable exact] (e : Int) :
    ((2 * q + if exact then 0 else 1 : Nat) : Rat) * 2 ^ e = (q + if exact then 0 else 1 / 2) * 2 ^ (e + 1) := by
  rw [zpow_add_one₀ two_ne_zero]
  split
  all_goals push_cast; ring

/-- A value from q up to q + 1 lies the same way to every integer as q, or as q and a half when it is not q. -/
theorem agreeAt_sticky {w : Rat} {q : Nat} (hlow : (q : Rat) ≤ w) (hhigh : w < q + 1) {exact : Prop} [Decidable exact]
    (he : exact ↔ w = q) : AgreeAt 1 w (q + if exact then 0 else 1 / 2) := fun t => by
  rw [mul_one]
  split
  · next h => rw [he.1 h, add_zero]; exact ⟨Iff.rfl, Iff.rfl⟩
  · next h =>
    have hlt := lt_of_le_of_ne hlow (fun h' => h (he.2 h'.symm))
    obtain ht | ht : t ≤ q ∨ (q + 1 : Int) ≤ t := by omega
    · have : (t : Rat) ≤ q := by exact_mod_cast ht
      exact ⟨iff_of_true (by linarith) (by linarith), iff_of_false (by linarith) (by linarith)⟩
    · have : ((q : Rat) + 1) ≤ t := by exact_mod_cast ht
      exact ⟨iff_of_false (by linarith) (by linarith), iff_of_true (by linarith) (by linarith)⟩

theorem agreeAt_mul {u s v v' : Rat} (hs : 0 < s) (h : AgreeAt u v v') : AgreeAt (u * s) (v * s) (v' * s) := fun t => by
  rw [← mul_assoc, mul_le_mul_iff_left₀ hs, mul_le_mul_iff_left₀ hs, mul_le_mul_iff_left₀ hs, mul_le_mul_iff_left₀ hs]
  exact h t

theorem agreeAt_signed (neg : Bool) {u v v' : Rat} (h : AgreeAt u v v') :
    AgreeAt u (signedInt neg 1 * v) (signedInt neg 1 * v') := by
  cases neg
  · simpa [signedInt] using h
  · simpa [signedInt] using agreeAt_neg h

/-- The digits `quotient` computes for m₁ / m₂, and those it cuts off. -/
theorem quotient_agrees {m₁ m₂ : Nat} (h₂ : m₂ ≠ 0) (k : Nat) (e : Int) (neg : Bool) :
    AgreeAt (2 ^ (e - k - 1 + 1)) (signedInt neg 1 * (m₁ / m₂ * 2 ^ e))
      (ratOf (.fin neg (2 * (m₁ * 2 ^ k / m₂) + if m₁ * 2 ^ k % m₂ = 0 then 0 else 1) (e - k - 1))) := by
  have hpos : (0 : Rat) < m₂ := by exact_mod_cast Nat.pos_of_ne_zero h₂
  have hdiv : (m₁ / m₂ : Rat) * 2 ^ e = (m₁ * 2 ^ k : Nat) / m₂ * 2 ^ (e - k - 1 + 1) := by
    rw [sub_add_cancel, zpow_sub₀ two_ne_zero, zpow_natCast]
    push_cast
    field_simp
  rw [signedInt_mul_ratOf, natCast_sticky, hdiv]
  refine agreeAt_signed neg ?_
  generalize m₁ * 2 ^ k = N
  have hN : (N : Rat) = (N / m₂ : Nat) * m₂ + (N % m₂ : Nat) := by exact_mod_cast (Nat.div_add_mod' N m₂).symm
  have hhigh : (N : Rat) / m₂ < (N / m₂ : Nat) + 1 := by
    rw [div_lt_iff₀ hpos]
    exact_mod_cast Nat.lt_mul_of_div_lt (Nat.lt_succ_self _) (Nat.pos_of_ne_zero h₂)
  have hexact : N % m₂ = 0 ↔ (N : Rat) / m₂ = (N / m₂ : Nat) := by
    rw [div_eq_iff hpos.ne', ← Nat.cast_eq_zero (R := Rat)]
    constructor <;> intro h <;> linarith
  have h := agreeAt_mul (two_zpow_pos (e - k - 1 + 1)) (agreeAt_sticky Nat.cast_div_le hhigh hexact)
  rwa [one_mul] at h

theorem quotient_digits {m₁ m₂ : Nat} (h₁ : m₁ ≠ 0) (h₂ : m₂ ≠ 0) (p : Nat) :
    2 ^ (p + 2) ≤ m₁ * 2 ^ (p + 2 + bitLength m₂) / m₂ := by
  rw [Nat.le_div_iff_mul_le (Nat.pos_of_ne_zero h₂), Nat.pow_add 2 (p + 2)]
  obtain ⟨-, hhigh, -⟩ := bitLength_bounds h₂
  calc 2 ^ (p + 2) * m₂ ≤ 2 ^ (p + 2) * 2 ^ bitLength m₂ := Nat.mul_le_mul_left _ hhigh.le
    _ ≤ m₁ * (2 ^ (p + 2) * 2 ^ bitLength m₂) := Nat.le_mul_of_pos_left _ (Nat.pos_of_ne_zero h₁)

theorem ratOf_div (n₁ n₂ : Bool) (m₁ m₂ : Nat) (e₁ e₂ : Int) : ratOf (.fin n₁ m₁ e₁) / ratOf (.fin n₂ m₂ e₂) =
    signedInt (n₁ != n₂) 1 * (m₁ / m₂ * 2 ^ (e₁ - e₂)) := by
  have h : (m₁ : Rat) * 2 ^ e₁ / (m₂ * 2 ^ e₂) = m₁ / m₂ * 2 ^ (e₁ - e₂) := by
    rw [zpow_sub₀ two_ne_zero, mul_div_mul_comm]
  rw [signedInt_mul_ratOf, signedInt_mul_ratOf, ← h]
  cases n₁ <;> cases n₂ <;> simp [signedInt, neg_div, div_neg]

/-- Settles O43: the digits of the quotient round as the quotient does. -/
theorem quotientIsCorrect : Obligations.QuotientIsCorrect := by
  intro F m a b na nb ma mb ea eb hF ha hb hmb v
  rw [FpFormat.div, ha, hb]
  simp only [hmb, if_false]
  refine ⟨fun h => ?_, fun h => ?_⟩
  · rw [if_pos h, withSign_eq_signed]
  · have hagree := quotient_agrees (m₁ := ma) hmb (F.prec + 2 + bitLength mb) (ea - eb) (na != nb)
    rw [← ratOf_div] at hagree
    have hdigits := quotient_digits h hmb F.prec
    have hn : 2 ^ (F.prec + 2) ≤ 2 * (ma * 2 ^ (F.prec + 2 + bitLength mb) / mb) +
        if ma * 2 ^ (F.prec + 2 + bitLength mb) % mb = 0 then 0 else 1 := by omega
    rw [if_neg h]
    exact ⟨isRounding_of_agreeAt hn hagree hF m, decide_neg_of_agreeAt hn hagree, rounded_of_agreeAt hn hagree m⟩

end Sys2Proof.Machine
end

section
/-! SUPPORT. The integer square root is the floor of the root, and its digits round as the root does (O44). A root is
compared with a value by comparing squares. -/

namespace Sys2Proof.Machine

open Sys2Proof.Spec

/-! ## The integer square root -/

/-- Each bit keeps r * r ≤ n and n below the square of r with all lower bits set and one added. -/
theorem isqrtFrom_bounds (k : Nat) {n r : Nat} (hlow : r * r ≤ n) (hhigh : n < (r + 2 ^ k) * (r + 2 ^ k)) :
    isqrtFrom k n r * isqrtFrom k n r ≤ n ∧ n < (isqrtFrom k n r + 1) * (isqrtFrom k n r + 1) := by
  induction k generalizing r with
  | zero => exact ⟨hlow, hhigh⟩
  | succ k ih =>
    rw [isqrtFrom]
    split
    · next h =>
      refine ih h ?_
      rwa [Nat.add_assoc, ← Nat.two_mul, ← Nat.pow_succ']
    · next h => exact ih hlow (Nat.lt_of_not_le h)

theorem isqrt_bounds (n : Nat) : isqrt n * isqrt n ≤ n ∧ n < (isqrt n + 1) * (isqrt n + 1) := by
  refine isqrtFrom_bounds _ (Nat.zero_le n) ?_
  have hlt : n < 2 ^ bitLength n := by
    by_cases hn : n = 0
    · subst hn
      exact Nat.two_pow_pos _
    · exact (bitLength_bounds hn).2.1
  rw [Nat.zero_add]
  exact hlt.trans_le (Nat.le_mul_self _)

/-! ## Values that lie to every multiple of a unit as a root does -/

/-- v' lies to every multiple of u as the root of v does. -/
def RootAgrees (u v v' : Rat) : Prop :=
  ∀ t : Nat, ((t : Rat) * u ≤ v' ↔ t * u * (t * u) ≤ v) ∧ (v' ≤ t * u ↔ v ≤ t * u * (t * u))

theorem rootAgrees_coarser {e q : Int} (h : e ≤ q) {v v' : Rat} (ha : RootAgrees (2 ^ e) v v') :
    RootAgrees (2 ^ q) v v' := fun t => by
  obtain ⟨k, hk⟩ := exists_two_zpow_eq h
  have := ha (t * k)
  rw [Nat.cast_mul, mul_assoc] at this
  rwa [hk]

/-- Half way between two neighbours, v' lies as the root of v does. -/
theorem rootAgrees_mid {u : Int} {v v' : Rat} (h : RootAgrees (2 ^ (u - 1)) v v') (j : Nat) :
    let sum : Rat := j * 2 ^ u + (j + 1 : Nat) * 2 ^ u
    (2 * (v' / 2 ^ u) ≤ 2 * j + 1 ↔ 4 * v ≤ sum * sum) ∧ (2 * j + 1 ≤ 2 * (v' / 2 ^ u) ↔ sum * sum ≤ 4 * v) := by
  intro sum
  have hpos := two_zpow_pos u
  have hu : (2 : Rat) ^ u = 2 * 2 ^ (u - 1) := by rw [zpow_sub_one₀ two_ne_zero]; ring
  have hmid : ((2 * j + 1 : Nat) : Rat) * 2 ^ (u - 1) = (2 * j + 1) / 2 * 2 ^ u := by
    rw [hu]
    push_cast
    ring
  have hsum : sum * sum = 4 * ((2 * j + 1) / 2 * 2 ^ u * ((2 * j + 1) / 2 * 2 ^ u)) := by
    dsimp only [sum]
    push_cast
    ring
  obtain ⟨hle, hge⟩ := h (2 * j + 1)
  rw [hmid] at hle hge
  rw [hsum, mul_le_mul_iff_right₀ four_pos, mul_le_mul_iff_right₀ four_pos, ← hle, ← hge, ← div_le_iff₀ hpos,
    ← le_div_iff₀ hpos, le_div_iff₀' two_pos, div_le_iff₀' two_pos]
  exact ⟨Iff.rfl, Iff.rfl⟩

/-- The digits `root` computes for m * 2^e, and the bit below them. -/
theorem root_agrees (N : Nat) (e : Int) : RootAgrees (2 ^ (e + 1)) (N * 2 ^ (2 * (e + 1)))
    (ratOf (.fin false (2 * isqrt N + if isqrt N * isqrt N = N then 0 else 1) e)) := fun t => by
  obtain ⟨hlow, hhigh⟩ := isqrt_bounds N
  have hpos := two_zpow_pos (e + 1)
  rw [ratOf_fin_false, natCast_sticky, mul_mul_mul_comm, ← zpow_add₀ two_ne_zero, ← two_mul,
    mul_le_mul_iff_left₀ hpos, mul_le_mul_iff_left₀ hpos, mul_le_mul_iff_left₀ (two_zpow_pos _),
    mul_le_mul_iff_left₀ (two_zpow_pos _)]
  generalize isqrt N = r at hlow hhigh
  obtain ht | ht | ht : t < r ∨ t = r ∨ r + 1 ≤ t := by omega
  · have h1 : (t : Rat) + 1 ≤ r := by exact_mod_cast ht
    have h2 : (t : Rat) * t < N := by exact_mod_cast (Nat.mul_self_lt_mul_self ht).trans_le hlow
    refine ⟨iff_of_true ?_ h2.le, iff_of_false ?_ (not_le.2 h2)⟩
    · split <;> linarith
    · split <;> linarith
  · subst ht
    have h2 : (t : Rat) * t ≤ N := by exact_mod_cast hlow
    refine ⟨iff_of_true ?_ h2, ?_⟩
    · split <;> linarith
    · split
      · next h => exact iff_of_true (by linarith) (by exact_mod_cast h.ge)
      · next h => exact iff_of_false (by linarith) (not_le.2 (lt_of_le_of_ne h2 (by exact_mod_cast h)))
  · have h1 : (r : Rat) + 1 ≤ t := by exact_mod_cast ht
    have h2 : (N : Rat) < t * t := by exact_mod_cast hhigh.trans_le (Nat.mul_self_le_mul_self ht)
    refine ⟨iff_of_false ?_ (not_le.2 h2), iff_of_true ?_ h2.le⟩
    · split <;> linarith
    · split <;> linarith

/-! ## The best value, by squares -/

/-- `best` lies on the side of the root of v the mode asks for, or nearest to it, and `other` no better. -/
def NoBetterRoot (m : RMode) (best v other : Rat) : Prop :=
  match m with
  | .rdn | .rtz => best * best ≤ v ∧ (other * other ≤ v → other ≤ best)
  | .rup => v ≤ best * best ∧ (v ≤ other * other → best ≤ other)
  | .rne | .rmm => (best < other → 4 * v ≤ (best + other) * (best + other)) ∧
      (other < best → (best + other) * (best + other) ≤ 4 * v)

theorem noBetterRoot_self (m : RMode) {best other : Rat} (hb : 0 ≤ best) (ho : 0 ≤ other) :
    NoBetterRoot m best (best * best) other := by
  have hsq : other * other ≤ best * best ↔ other ≤ best := mul_self_le_mul_self_iff ho hb |>.symm
  have hsq' : best * best ≤ other * other ↔ best ≤ other := mul_self_le_mul_self_iff hb ho |>.symm
  cases m <;> simp only [NoBetterRoot, hsq, hsq', le_refl, true_and, imp_self]
  all_goals
    refine ⟨fun h => ?_, fun h => ?_⟩
    · nlinarith
    · nlinarith

/-- The neighbours lo and hi of the root, and which of them the mode takes: a nearest mode takes lo only for a root up
to half way between them, and hi only for one from there. -/
theorem noBetterRoot_of_neighbours {m : RMode} {best lo hi v other : Rat} (hlo : 0 ≤ lo) (hlt : lo * lo < v)
    (hgt : v < hi * hi) (hhi : lo ≤ hi) (hother : 0 ≤ other) (hgap : other ≤ lo ∨ hi ≤ other)
    (hbest : match m with
      | .rdn | .rtz => best = lo
      | .rup => best = hi
      | .rne | .rmm => (best = lo ∧ 4 * v ≤ (lo + hi) * (lo + hi)) ∨ (best = hi ∧ (lo + hi) * (lo + hi) ≤ 4 * v)) :
    NoBetterRoot m best v other := by
  have hbelow (h : other ≤ lo) : other * other ≤ lo * lo := mul_self_le_mul_self hother h
  have habove (h : hi ≤ other) : hi * hi ≤ other * other := mul_self_le_mul_self (hlo.trans hhi) h
  cases m <;> simp only [NoBetterRoot] at hbest ⊢
  case rdn | rtz =>
    subst hbest
    exact ⟨hlt.le, fun h => hgap.resolve_right fun h' => by linarith [habove h']⟩
  case rup =>
    subst hbest
    exact ⟨hgt.le, fun h => hgap.resolve_left fun h' => by linarith [hbelow h']⟩
  case rne | rmm =>
    obtain ⟨rfl, hmid⟩ | ⟨rfl, hmid⟩ := hbest
    · refine ⟨fun h => ?_, fun h => ?_⟩
      · have := hgap.resolve_left (not_le.2 h)
        nlinarith
      · nlinarith
    · refine ⟨fun h => ?_, fun h => ?_⟩
      · nlinarith
      · have := hgap.resolve_right (not_le.2 h)
        nlinarith

/-- Which neighbour a mode rounds a nonnegative value to. -/
theorem roundsTo_neighbours {m : RMode} {w : Rat} {j k : Nat} (hlow : (j : Rat) < w) (hhigh : w < j + 1)
    (hk : RoundsTo m w k) :
    match m with
    | .rdn | .rtz => k = j
    | .rup => k = j + 1
    | .rne | .rmm => (k = j ∧ 2 * w ≤ 2 * j + 1) ∨ (k = j + 1 ∧ 2 * j + 1 ≤ 2 * w) := by
  have hj : (0 : Rat) ≤ j := Nat.cast_nonneg j
  have hjk : k = j ∨ k = j + 1 := by
    have h1 : (j : Int) ≤ k := roundsTo_le_of_le hk (by push_cast; exact hlow.le)
    have h2 : (k : Int) ≤ (j + 1 : Nat) := roundsTo_ge_of_ge hk (by push_cast; exact hhigh.le)
    omega
  obtain rfl | rfl := hjk
  · cases m <;> simp only [RoundsTo, Int.cast_natCast] at hk ⊢ <;> grind
  · push_cast at hk ⊢
    cases m <;> simp only [RoundsTo, Int.cast_add, Int.cast_one, Int.cast_natCast] at hk ⊢ <;> grind

section
variable {F : FpFormat} {n : Nat} (hn : 2 ^ (F.prec + 2) ≤ n) {e : Int} {v : Rat}
  (h : RootAgrees (2 ^ (e + 1)) v (ratOf (.fin false n e)))
include hn h

/-- The rounding of the digits of a root squares to the value exactly when it cuts off nothing. -/
theorem sq_eq_iff_exactAt (m : RMode) :
    let best : Rat := roundTo m false n e (F.ulpExp n e) * 2 ^ F.ulpExp n e
    best * best = v ↔ exactAt n e (F.ulpExp n e) = true := by
  intro best
  obtain ⟨hle, hge⟩ := rootAgrees_coarser (lt_ulpExp_of_digits hn).le h (roundTo m false n e (F.ulpExp n e))
  rw [exactAt_iff m false, eq_div_iff (two_zpow_pos _).ne', le_antisymm_iff, ← hle, ← hge, ← le_antisymm_iff]
  rfl

/-- The value lies at a neighbour of its last place or strictly between two; either way the squares lie as the digits
do. -/
theorem noBetterRoot_of_digits (m : RMode) {p k : Nat} {q : Int} (hd : F.decode p = .fin false k q) :
    NoBetterRoot m (roundTo m false n e (F.ulpExp n e) * 2 ^ F.ulpExp n e) v (ratOf (.fin false k q)) := by
  have hn0 := ne_zero_of_digits hn
  have hlast := (isLastPlace_iff (isPlace_place F false hn0 e) (F.ulpExp n e)).2 rfl
  have hulp := lt_ulpExp_of_digits hn (e := e)
  have hround := roundsTo_roundTo m false n e (F.ulpExp n e)
  have hother : 0 ≤ ratOf (.fin false k q) := by rw [ratOf_fin_false]; positivity
  have hv' : 0 ≤ ratOf (.fin false n e) := by rw [ratOf_fin_false]; positivity
  rw [signedInt, if_neg Bool.false_ne_true] at hround
  generalize roundTo m false n e (F.ulpExp n e) = b at hround ⊢
  generalize F.ulpExp n e = u at hlast hulp hround ⊢
  have hpos := two_zpow_pos u
  have hagree := rootAgrees_coarser hulp.le h
  have hmidAgree := rootAgrees_coarser (show e + 1 ≤ u - 1 by omega) h
  have hgap (j : Int) (hlow : (j : Rat) * 2 ^ u < _) (hhigh : _ < (j + 1 : Int) * (2 : Rat) ^ u) :=
    representable_off_gap hlast hlow hhigh hd
  generalize ratOf (.fin false n e) = v' at hround hv' hagree hmidAgree hgap
  obtain ⟨j, hj⟩ : ∃ j, ⌊v' / 2 ^ u⌋₊ = j := ⟨_, rfl⟩
  have hdiv : v' / 2 ^ u * 2 ^ u = v' := div_mul_cancel₀ v' hpos.ne'
  have hfloor := Nat.floor_le (div_nonneg hv' hpos.le)
  have hhigh := Nat.lt_floor_add_one (v' / 2 ^ u)
  rw [hj] at hfloor hhigh
  obtain heq | hlow := eq_or_lt_of_le hfloor
  · rw [← heq] at hround hdiv
    have hb : b = j := Int.natCast_inj.1 (roundsTo_unique hround (roundsTo_intCast m j))
    have hv : v = j * 2 ^ u * (j * 2 ^ u) :=
      le_antisymm ((hagree j).2.1 hdiv.ge) ((hagree j).1.1 hdiv.le)
    rw [hb, hv]
    exact noBetterRoot_self m (by positivity) hother
  · obtain ⟨hle, hge⟩ := rootAgrees_mid hmidAgree j
    have hlt := (lt_div_iff₀ hpos).1 hlow
    have hgt := (div_lt_iff₀ hpos).1 hhigh
    refine noBetterRoot_of_neighbours (lo := j * 2 ^ u) (hi := (j + 1 : Nat) * 2 ^ u) (by positivity)
      (not_le.1 (mt (hagree j).2.2 (not_le.2 hlt)))
      (not_le.1 (mt (hagree (j + 1)).1.2 (not_le.2 (by push_cast; exact hgt)))) ?_ hother ?_ ?_
    · push_cast
      nlinarith
    · exact hgap j hlt (by push_cast; exact hgt)
    · have hnext := roundsTo_neighbours hlow hhigh hround
      cases m <;> simp only [hle, hge] at hnext ⊢
      case rdn | rtz | rup => rw [hnext]
      case rne | rmm => exact hnext.imp (fun h => ⟨by rw [h.1], h.2⟩) fun h => ⟨by rw [h.1], h.2⟩

/-- The place of a root is well inside the normal range. -/
theorem root_place_bounds (hF : IsFormat F) (hlow : (2 : Rat) ^ F.qmin ≤ v)
    (hhigh : v < 2 ^ ((2 ^ (F.expBits - 1) : Nat) : Int)) :
    F.qmin ≤ F.place n e ∧ F.place n e + F.fracBits + 2 ≤ (2 ^ (F.expBits - 1) : Nat) := by
  have hlt := lt_place_of_digits hn (e := e)
  obtain ⟨hp, hp'⟩ := (isPlace_iff F _ _).1 (isPlace_place F false (ne_zero_of_digits hn) e)
  have hsq (q : Int) : (1 : Nat) * (2 : Rat) ^ q * ((1 : Nat) * 2 ^ q) = 2 ^ (2 * q) := by
    rw [Nat.cast_one, one_mul, ← zpow_add₀ two_ne_zero, two_mul]
  have hle := (rootAgrees_coarser (show e + 1 ≤ F.place n e + F.fracBits by omega) h 1).1
  have hge := (rootAgrees_coarser (show e + 1 ≤ F.place n e + F.fracBits + 1 by omega) h 1).2
  rw [hsq, Nat.cast_one, one_mul] at hle hge
  rw [mag_ratOf, ← ratOf_fin_false] at hp hp'
  have h1 := two_zpow_lt_iff.1 ((hle.1 hp).trans_lt hhigh)
  have h2 := two_zpow_le_iff.1 (hlow.trans (hge.1 hp'.le))
  generalize F.place n e = P at *
  obtain rfl | rfl := hF
  · change 2 * (P + 23) < 128 at h1
    change -149 ≤ 2 * (P + 23 + 1) at h2
    change -149 ≤ P ∧ P + 23 + 2 ≤ 128
    omega
  · change 2 * (P + 52) < 1024 at h1
    change -1074 ≤ 2 * (P + 52 + 1) at h2
    change -1074 ≤ P ∧ P + 52 + 2 ≤ 1024
    omega

end

/-! ## Square roots -/

theorem sqrt_digits {m : Nat} (hm : m ≠ 0) {p k : Nat} (hk : 2 * p + 4 ≤ k) : 2 ^ (p + 2) ≤ isqrt (m * 2 ^ k) := by
  obtain ⟨-, hhigh⟩ := isqrt_bounds (m * 2 ^ k)
  by_contra! hlt
  have hsq : (isqrt (m * 2 ^ k) + 1) * (isqrt (m * 2 ^ k) + 1) ≤ 2 ^ (p + 2) * 2 ^ (p + 2) :=
    Nat.mul_self_le_mul_self hlt
  have hpow : 2 ^ (p + 2) * 2 ^ (p + 2) ≤ m * 2 ^ k := by
    rw [← Nat.pow_add]
    exact (Nat.pow_le_pow_right two_pos (by omega)).trans (Nat.le_mul_of_pos_left _ (Nat.pos_of_ne_zero hm))
  omega

/-- The root of a finite positive value is the rounding of digits that lie as the root does. -/
theorem sqrt_eq_roundPack {F : FpFormat} {a n : Nat} {e : Int} (hd : F.decode a = .fin false n e) (hn : n ≠ 0)
    (m : RMode) : ∃ n' e', 2 ^ (F.prec + 2) ≤ n' ∧ F.sqrt m a = F.roundPack m false n' e' ∧
      RootAgrees (2 ^ (e' + 1)) (ratOf (.fin false n e)) (ratOf (.fin false n' e')) := by
  refine ⟨_, _, ?_, by rw [FpFormat.sqrt, hd]; exact (if_neg hn).trans (if_neg Bool.false_ne_true), ?_⟩
  · have := sqrt_digits hn (k := 2 * F.prec + 4 + (e % 2).toNat) (Nat.le_add_right _ _)
    omega
  · generalize hj : 2 * F.prec + 4 + (e % 2).toNat = j
    have hagree := root_agrees (n * 2 ^ j) ((e - j) / 2 - 1)
    rwa [Nat.cast_mul, mul_assoc, natCast_two_pow_mul_zpow, show 2 * ((e - j) / 2 - 1 + 1) + j = e by omega,
      ← ratOf_fin_false] at hagree

/-- Settles O44: the digits of the root round as the root does, with no overflow or underflow. -/
theorem squareRootIsCorrect : Obligations.SquareRootIsCorrect := by
  intro F m a n e hF hd hn
  obtain ⟨n', e', hn', hsqrt, hagree⟩ := sqrt_eq_roundPack hd hn m
  obtain ⟨hmin, hmax⟩ := bounds_of_decode hd hF hn
  rw [← ratOf_fin_false] at hmin hmax
  obtain ⟨hlow, hhigh⟩ := root_place_bounds hn' hagree hF hmin hmax
  have hflags := roundPack_flags_of_place hF (ne_zero_of_digits hn') m false hlow hhigh
  obtain ⟨k, q, hd', hv, -, -⟩ := roundPack_value m false (ne_zero_of_digits hn') e' (by rw [hflags]; split <;> rfl)
  have hv' : ratOf (.fin false k q) = roundTo m false n' e' (F.ulpExp n' e') * 2 ^ F.ulpExp n' e' := hv
  rw [hsqrt]
  refine ⟨k, q, hd', ?_, fun p k' q' hp => ?_⟩
  · have hexact := sq_eq_iff_exactAt hn' hagree m
    rw [← hv'] at hexact
    rw [hflags]
    simp only [hexact]
  · have h := noBetterRoot_of_digits hn' hagree m hp
    rw [← hv'] at h
    cases m <;> exact h

end Sys2Proof.Machine
end

section
/-! SUPPORT. Operations on NaNs, infinities and zeros (O45): what each answers is told by the decoded values. -/

namespace Sys2Proof.Machine

open Sys2Proof.Spec

/-! ## NaNs -/

/-- A decoded NaN. -/
def FpVal.isNaN : FpVal → Bool
  | .nan _ => true
  | _ => false

/-- A decoded signaling NaN. -/
def FpVal.isSignaling : FpVal → Bool
  | .nan s => s
  | _ => false

theorem FpFormat.isNaN_decode (F : FpFormat) (v : Nat) : (F.decode v).isNaN = F.isNaN v := by
  obtain ⟨h, hd⟩ | ⟨h, hd⟩ | ⟨h, hd⟩ := F.decode_cases v <;> rw [hd]
  · exact ((F.isNaN_iff v).2 h).symm
  · exact ((F.isNaN_eq_false_iff v).2 h.le).symm
  · exact ((F.isNaN_eq_false_iff v).2 h.le).symm

theorem FpFormat.isSignaling_decode (F : FpFormat) (v : Nat) : (F.decode v).isSignaling = F.isSNaN v := by
  obtain ⟨h, hd⟩ | ⟨h, hd⟩ | ⟨h, hd⟩ := F.decode_cases v <;> rw [hd]
  · rfl
  · exact (F.isSNaN_eq_false h.le).symm
  · exact (F.isSNaN_eq_false h.le).symm

@[simp] theorem FpVal.isNaN_negate (x : FpVal) : x.negate.isNaN = x.isNaN := by cases x <;> rfl

@[simp] theorem FpVal.isSignaling_negate (x : FpVal) : x.negate.isSignaling = x.isSignaling := by cases x <;> rfl

section
variable (F : FpFormat) (m : RMode)

theorem FpFormat.sum_nan {x y : FpVal} (h : x.isNaN = true ∨ y.isNaN = true) :
    F.sum m x y = F.nanResult (x.isSignaling || y.isSignaling) := by
  cases x <;> cases y <;> simp [FpVal.isNaN] at h <;> simp [FpFormat.sum, FpVal.isSignaling]

variable {a b : Nat} (h : F.isNaN a = true ∨ F.isNaN b = true)
include h

theorem FpFormat.add_nan : F.add m a b = F.nanResult (F.isSNaN a || F.isSNaN b) := by
  rw [FpFormat.add, F.sum_nan m (by rwa [F.isNaN_decode, F.isNaN_decode]), F.isSignaling_decode, F.isSignaling_decode]

theorem FpFormat.sub_nan : F.sub m a b = F.nanResult (F.isSNaN a || F.isSNaN b) := by
  rw [FpFormat.sub, F.sum_nan m (by rwa [FpVal.isNaN_negate, F.isNaN_decode, F.isNaN_decode]), FpVal.isSignaling_negate,
    F.isSignaling_decode, F.isSignaling_decode]

theorem FpFormat.mul_nan : F.mul m a b = F.nanResult (F.isSNaN a || F.isSNaN b) := by
  rw [← F.isNaN_decode, ← F.isNaN_decode] at h
  rw [FpFormat.mul, ← F.isSignaling_decode, ← F.isSignaling_decode]
  generalize F.decode a = x at h ⊢
  generalize F.decode b = y at h ⊢
  cases x <;> cases y <;> simp [FpVal.isNaN] at h <;> simp [FpVal.isSignaling]

theorem FpFormat.div_nan : F.div m a b = F.nanResult (F.isSNaN a || F.isSNaN b) := by
  rw [← F.isNaN_decode, ← F.isNaN_decode] at h
  rw [FpFormat.div, ← F.isSignaling_decode, ← F.isSignaling_decode]
  generalize F.decode a = x at h ⊢
  generalize F.decode b = y at h ⊢
  cases x <;> cases y <;> simp [FpVal.isNaN] at h <;> simp [FpVal.isSignaling]

end

/-! ## Fused multiply-adds -/

/-- A decoded zero. -/
def FpVal.isZero : FpVal → Bool
  | .fin _ n _ => decide (n = 0)
  | _ => false

/-- A decoded infinity. -/
def FpVal.isInf : FpVal → Bool
  | .inf _ => true
  | _ => false

theorem FpFormat.isZero_decode {F : FpFormat} (hF : IsFormat F) (v : Nat) : (F.decode v).isZero = (F.mag v == 0) := by
  have hpos := FpFormat.infBits_pos hF
  rw [Bool.eq_iff_iff, beq_iff_eq]
  obtain ⟨h, hd⟩ | ⟨h, hd⟩ | ⟨h, hd⟩ := F.decode_cases v <;> rw [hd]
  · exact iff_of_false Bool.false_ne_true (by omega)
  · exact iff_of_false Bool.false_ne_true (by omega)
  · exact decide_eq_true_iff.trans (F.parts_eq_zero_iff _)

theorem FpFormat.isInf_decode (F : FpFormat) (v : Nat) : (F.decode v).isInf = (F.mag v == F.infBits) := by
  rw [Bool.eq_iff_iff, beq_iff_eq]
  obtain ⟨h, hd⟩ | ⟨h, hd⟩ | ⟨h, hd⟩ := F.decode_cases v <;> rw [hd]
  · exact iff_of_false Bool.false_ne_true (by omega)
  · exact iff_of_true rfl h
  · exact iff_of_false Bool.false_ne_true (by omega)

/-- A product of zero and infinity, in either order. -/
def FpFormat.zeroTimesInf (F : FpFormat) (a b : Nat) : Bool :=
  (F.mag a == 0 && F.mag b == F.infBits) || (F.mag a == F.infBits && F.mag b == 0)

theorem mulExact_snd (x y : FpVal) : (mulExact x y).2 = (x.isZero && y.isInf || x.isInf && y.isZero) := by
  cases x <;> cases y <;> simp [mulExact, FpVal.isZero, FpVal.isInf, apply_ite]

theorem mulExact_isNaN (x y : FpVal) : (mulExact x y).1.isNaN = (x.isNaN || y.isNaN || (mulExact x y).2) := by
  cases x <;> cases y <;> simp only [mulExact]
  case inf.fin | fin.inf => split <;> rfl
  all_goals rfl

theorem mulExact_isSignaling (x y : FpVal) :
    (mulExact x y).1.isSignaling = (x.isSignaling || y.isSignaling || (mulExact x y).2) := by
  cases x <;> cases y <;> simp only [mulExact]
  case inf.fin | fin.inf => split <;> rfl
  case nan.nan s t => exact (Bool.or_false _).symm
  all_goals simp [FpVal.isSignaling]

theorem mulExact_invalid {F : FpFormat} (hF : IsFormat F) (a b : Nat) :
    (mulExact (F.decode a) (F.decode b)).2 = F.zeroTimesInf a b := by
  rw [mulExact_snd, FpFormat.isZero_decode hF, FpFormat.isZero_decode hF, F.isInf_decode, F.isInf_decode]
  rfl

/-- A NaN among the inputs of a fused multiply-add, or a product of zero and infinity. -/
theorem FpFormat.fma_nan {F : FpFormat} (hF : IsFormat F) (m : RMode) (p q : Bool) {a b c : Nat}
    (h : F.isNaN a = true ∨ F.isNaN b = true ∨ F.isNaN c = true ∨ F.zeroTimesInf a b = true) :
    F.fma m p q a b c = F.nanResult (F.isSNaN a || F.isSNaN b || F.isSNaN c || F.zeroTimesInf a b) := by
  have hinv := mulExact_invalid hF a b
  have hsig := mulExact_isSignaling (F.decode a) (F.decode b)
  have hnan := mulExact_isNaN (F.decode a) (F.decode b)
  rw [F.isSignaling_decode, F.isSignaling_decode, hinv] at hsig
  rw [F.isNaN_decode, F.isNaN_decode, hinv] at hnan
  have hprod (x : FpVal) : (if p then x.negate else x).isNaN = x.isNaN ∧
      (if p then x.negate else x).isSignaling = x.isSignaling := by cases p <;> simp
  have hadd (x : FpVal) : (if q then x.negate else x).isNaN = x.isNaN ∧
      (if q then x.negate else x).isSignaling = x.isSignaling := by cases q <;> simp
  rw [FpFormat.fma, hinv]
  cases hz : F.zeroTimesInf a b
  · rw [hz] at h hsig hnan
    dsimp only
    rw [if_neg Bool.false_ne_true, F.sum_nan m, (hprod _).2, (hadd _).2, hsig, F.isSignaling_decode]
    · simp
    · rw [(hprod _).1, (hadd _).1, hnan, F.isNaN_decode]
      simpa [or_assoc] using h
  · rw [Bool.or_true]
    rfl

/-! ## Infinities and zeros -/

theorem FpFormat.nanResult_eq {F : FpFormat} (hF : IsFormat F) (c : Bool) :
    F.nanResult c = ⟨if F = binary32 then 0x7FC00000 else 0x7FF8000000000000, if c then 16 else 0⟩ := by
  rw [FpFormat.nanResult, canonicalNaN_eq hF, flagIf_NV]

theorem FpFormat.decode_withSign_inf (F : FpFormat) (n : Bool) : F.decode (withSign F n F.infBits) = .inf n := by
  have hm := F.mag_signed n F.infBits_lt_signBit
  rw [withSign_eq_signed, FpFormat.decode_inf hm, F.neg_signed n F.infBits_lt_signBit]

theorem FpFormat.decode_withSign_fin {F : FpFormat} (n : Bool) {a : Nat} (h : a < F.infBits) :
    F.decode (withSign F n a) = .fin n (F.parts a).1 (F.parts a).2 := by
  have hlt := h.trans F.infBits_lt_signBit
  have hm := F.mag_signed n hlt
  rw [withSign_eq_signed, FpFormat.decode_fin (hm.symm ▸ h), F.neg_signed n hlt, hm]

theorem FpFormat.parts_zero (F : FpFormat) : F.parts 0 = (0, F.qmin) := by simp [FpFormat.parts]

/-- A sum that cancels is a zero: of the sign of its terms where they agree, else negative in RDN alone (R626). -/
theorem FpFormat.sumFin_cancel (F : FpFormat) (m : RMode) (n k : Bool) (a : Nat) (e : Int) (h : a = 0 ∨ k = !n) :
    F.sumFin m n a e k a e = ⟨withSign F (zeroSumNeg m n k) 0, 0⟩ := by
  refine (oneRounding_sumFin F m n k a a e e).1 ?_
  obtain rfl | rfl := h
  · rw [ratOf_fin_zero, ratOf_fin_zero, add_zero]
  · rw [ratOf_negate, add_neg_cancel]

theorem FpFormat.decode_withSign_zero {F : FpFormat} (hF : IsFormat F) (n : Bool) :
    F.decode (withSign F n 0) = .fin n 0 F.qmin := by
  rw [FpFormat.decode_withSign_fin n (FpFormat.infBits_pos hF), F.parts_zero]

/-! ## Fused results with an infinite term -/

theorem FpVal.negate_inf_if (p n : Bool) : (if p then (FpVal.inf n).negate else .inf n) = .inf (n != p) := by
  cases p <;> cases n <;> rfl

theorem FpVal.negate_fin_if (p n : Bool) (a : Nat) (e : Int) :
    (if p then (FpVal.fin n a e).negate else .fin n a e) = .fin (n != p) a e := by
  cases p <;> cases n <;> rfl

theorem FpFormat.fma_eq_sum {F : FpFormat} (m : RMode) (p q : Bool) {a b : Nat} {v : FpVal}
    (h : mulExact (F.decode a) (F.decode b) = (v, false)) (c : Nat) :
    F.fma m p q a b c = F.sum m (if p then v.negate else v) (if q then (F.decode c).negate else F.decode c) := by
  rw [FpFormat.fma, h]
  rfl

/-- A product with an infinite factor and no zero is infinite. -/
theorem mulExact_of_inf {F : FpFormat} {na nb : Bool} {a b x y : Nat} (ha : a < F.infBits) (hb : b < F.infBits)
    (h : (x = withSign F na F.infBits ∧ y = withSign F nb F.infBits) ∨
      (x = withSign F na F.infBits ∧ y = withSign F nb b ∧ b ≠ 0) ∨
      (x = withSign F na a ∧ a ≠ 0 ∧ y = withSign F nb F.infBits)) :
    mulExact (F.decode x) (F.decode y) = (.inf (na != nb), false) := by
  obtain ⟨rfl, rfl⟩ | ⟨rfl, rfl, hne⟩ | ⟨rfl, hne, rfl⟩ := h
  · rw [F.decode_withSign_inf, F.decode_withSign_inf]
    rfl
  · rw [F.decode_withSign_inf, FpFormat.decode_withSign_fin nb hb]
    exact if_neg (mt (F.parts_eq_zero_iff b).1 hne)
  · rw [F.decode_withSign_inf, FpFormat.decode_withSign_fin na ha]
    exact if_neg (mt (F.parts_eq_zero_iff a).1 hne)

theorem zeroTimesInf_withSign (F : FpFormat) (na nb : Bool) :
    F.zeroTimesInf (withSign F na 0) (withSign F nb F.infBits) = true ∧
      F.zeroTimesInf (withSign F na F.infBits) (withSign F nb 0) = true := by
  have hzero (n : Bool) : F.mag (withSign F n 0) = 0 := by
    rw [withSign_eq_signed, F.mag_signed n F.signBit_pos]
  have hinf (n : Bool) : F.mag (withSign F n F.infBits) = F.infBits := by
    rw [withSign_eq_signed, F.mag_signed n F.infBits_lt_signBit]
  simp [FpFormat.zeroTimesInf, hzero, hinf]

/-- Settles O45: each result is told by the decoded inputs. -/
theorem specialValueResults : Obligations.SpecialValueResults := by
  intro F m hF nan
  have hnan (c : Bool) : F.nanResult c = ⟨nan, if c then 16 else 0⟩ := FpFormat.nanResult_eq hF c
  have hinvalid : F.nanResult true = ⟨nan, 16⟩ := hnan true
  refine ⟨fun a b c => ?nans, fun na nb a => ?values, fun na nb nc p q a b c ha hb hc => ?infinite⟩
  case nans =>
    refine ⟨fun h => ⟨?_, ?_, ?_, ?_⟩, fun h => ?_, fun p q h => ?_⟩
    · exact (F.add_nan m h).trans (hnan _)
    · exact (F.sub_nan m h).trans (hnan _)
    · exact (F.mul_nan m h).trans (hnan _)
    · exact (F.div_nan m h).trans (hnan _)
    · rw [FpFormat.sqrt, FpFormat.decode_nan ((F.isNaN_iff a).1 h)]
      exact hnan _
    · refine (FpFormat.fma_nan hF m p q (by tauto)).trans ((hnan _).trans ?_)
      simp only [FpFormat.zeroTimesInf, Bool.or_assoc]
  case values =>
    intro inf zero
    have hinf (n : Bool) : F.decode (inf n) = .inf n := F.decode_withSign_inf n
    have hzero (n : Bool) : F.decode (zero n) = .fin n 0 F.qmin := FpFormat.decode_withSign_zero hF n
    have hsigned (n : Bool) : F.signed n F.infBits = inf n ∧ F.signed n 0 = zero n :=
      ⟨(withSign_eq_signed F n _).symm, (withSign_eq_signed F n _).symm⟩
    refine ⟨fun h => ?_, fun h => ?_, ?_, ?_, ?_, ?_, fun ha => ?_, ?_, ?_, ?_, ?_⟩
    · rw [FpFormat.add, hinf, hinf, ← hinvalid]
      exact if_neg h
    · rw [FpFormat.sub, hinf, hinf, ← hinvalid, h]
      exact if_neg (by cases nb <;> decide)
    · rw [FpFormat.mul, hzero, hinf, ← hinvalid]
      rfl
    · rw [FpFormat.mul, hzero, hinf, ← hinvalid]
      rfl
    · rw [FpFormat.div, hzero, hzero, ← hinvalid]
      rfl
    · rw [FpFormat.div, hinf, hinf, ← hinvalid]
    · have hfin (n : Bool) : F.decode (zero n + a) = .fin n (F.parts a).1 (F.parts a).2 := F.decode_withSign_fin n ha
      refine ⟨fun ha0 => ⟨?_, ?_, ?_⟩, ?_, ?_⟩
      · rw [FpFormat.sqrt, show F.decode (F.signBit + a) = _ from hfin true, ← hinvalid]
        exact (if_neg (mt (F.parts_eq_zero_iff a).1 ha0)).trans (if_pos rfl)
      · rw [FpFormat.div, hfin, hzero, ← (hsigned _).1]
        exact (if_pos rfl).trans (if_neg (mt (F.parts_eq_zero_iff a).1 ha0))
      · rw [FpFormat.add, hfin, hfin]
        refine (F.sumFin_cancel m na (!na) _ _ (.inr rfl)).trans ?_
        rw [zeroSumNeg, if_neg (by cases na <;> decide)]
        rfl
      · rw [FpFormat.add, hinf, hfin, ← (hsigned _).1]
        rfl
      · rw [FpFormat.div, hfin, hinf, ← (hsigned _).2]
    · rw [FpFormat.add, hzero]
      refine (F.sumFin_cancel m na na _ _ (.inl rfl)).trans ?_
      rw [zeroSumNeg, if_pos rfl]
      rfl
    · rw [FpFormat.sqrt, hzero, ← (hsigned _).2]
      rfl
    · rw [FpFormat.sqrt, hinf, ← hinvalid]
      rfl
    · rw [FpFormat.sqrt, hinf, ← (hsigned _).1]
      rfl
  case infinite =>
    intro inf prodNeg addNeg
    have hinf (n : Bool) : F.decode (inf n) = .inf n := F.decode_withSign_inf n
    have hfin {a : Nat} (n : Bool) (h : a < F.infBits) := F.decode_withSign_fin n h
    have hsigned (n : Bool) : F.signed n F.infBits = inf n := (withSign_eq_signed F n _).symm
    obtain ⟨hinv, hinv'⟩ := zeroTimesInf_withSign F na nb
    refine ⟨?_, ?_, ?_, ?_, ?_, ?_, fun hb0 => ⟨?_, ?_⟩, ?_, fun z => ⟨?_, ?_⟩, fun x y h => ⟨?_, ?_⟩, ?_⟩
    · rw [FpFormat.add, hfin na ha, hinf, ← hsigned]
      rfl
    · rw [FpFormat.add, hinf, ← hsigned]
      exact if_pos rfl
    · rw [FpFormat.sub, hinf, hfin nb hb, ← hsigned]
      rfl
    · rw [FpFormat.sub, hfin na ha, hinf, ← hsigned]
      rfl
    · rw [FpFormat.sub, hinf, hinf, ← hsigned]
      exact if_pos (Bool.not_not na).symm
    · rw [FpFormat.mul, hinf, hinf, ← hsigned]
    · rw [FpFormat.mul, hinf, hfin nb hb, ← hsigned]
      exact if_neg (mt (F.parts_eq_zero_iff b).1 hb0)
    · rw [FpFormat.mul, hinf, hfin nb hb, ← hsigned, bne_comm]
      exact if_neg (mt (F.parts_eq_zero_iff b).1 hb0)
    · rw [FpFormat.div, hinf, hfin nb hb, ← hsigned]
    · rw [FpFormat.fma_nan hF m p q (.inr (.inr (.inr hinv))), hinv, Bool.or_true, hinvalid]
    · rw [FpFormat.fma_nan hF m p q (.inr (.inr (.inr hinv'))), hinv', Bool.or_true, hinvalid]
    · rw [FpFormat.fma_eq_sum m p q (mulExact_of_inf ha hb h), hinf, FpVal.negate_inf_if, FpVal.negate_inf_if,
        ← hsigned, ← hinvalid]
      rfl
    · rw [FpFormat.fma_eq_sum m p q (mulExact_of_inf ha hb h), hfin nc hc, FpVal.negate_inf_if, FpVal.negate_fin_if,
        ← hsigned]
      rfl
    · rw [FpFormat.fma_eq_sum m p q (by rw [hfin na ha, hfin nb hb]; rfl), hinf, FpVal.negate_fin_if,
        FpVal.negate_inf_if, ← hsigned]
      rfl

end Sys2Proof.Machine
end

section
/-! SUPPORT. What a step that traps leaves (O8, O51), calls and breakpoints (O30), and fetches that trap (O9). -/

namespace Sys2Proof.Machine

open Sys2Proof.Spec

/-! ## Steps and traps -/

/-- Settles O8: of the step's three ends only `exec` is more than a trap, and it answers a next state. -/
theorem stepNeverStops : Obligations.StepNeverStops := by
  intro s
  unfold step
  simp only
  split
  · exact ⟨_, rfl⟩
  · split
    · obtain ⟨t, ht, -⟩ := exec_effect _ _
      exact ⟨t, ht⟩
    · exact ⟨_, rfl⟩

/-- A step that leaves a Trap call recorded is a trap from the state it began with. -/
theorem step_eq_raise_of_trapCall {s t : State} {call : TrapCall} (h : step s = .next t) (hc : t.trapCall = some call) :
    ∃ c tval, t = s.begin.raise c tval := by
  obtain ⟨i, he⟩ := step_effect h
  obtain hraise | hnone := he.trap_or_none i s.begin t s.begin_trapCall
  · exact hraise
  · cases hnone.symm.trans hc

/-- Settles O51: such a step is `raise`, field by field. -/
theorem trapsArePrecise : Obligations.TrapsArePrecise := by
  intro s t h call hc
  obtain ⟨c, tval, rfl⟩ := step_eq_raise_of_trapCall h hc
  cases (State.raise_trapCall _ _ _).symm.trans hc
  simp

/-! ## Calls and breakpoints -/

/-- Settles O30: each is `raise`, C.EBREAK where the configuration has it. -/
theorem callsAndBreakpointsTrap : Obligations.CallsAndBreakpointsTrap := by
  intro s
  refine ⟨traps_of_exec rfl ?_, traps_of_exec rfl rfl, fun hc => traps_of_exec rfl ?_⟩
  · cases s.unit.priv <;> rfl
  · exact s.whenEnabled_on _ .cEbreak rfl ((enabled_iff s.cfg _).2 ⟨.inl rfl, hc, rfl⟩)

/-! ## Fetches that trap -/

theorem align_eq_instrAlign (s : State) : align s = (s.cfg.instrAlign : Int) := by
  unfold align Config.instrAlign
  split <;> rfl

theorem pcMisaligned_begin_of_ne {s : State} (h : (s.pc.toNat : Int) % align s ≠ 0) : s.begin.pcMisaligned = true := by
  rw [align_eq_instrAlign] at h
  have h : s.pc.toNat % s.cfg.instrAlign ≠ 0 := by exact_mod_cast h
  simp [State.pcMisaligned, h]

theorem byteAddr_wrap (s : State) (a : Int) (k : Nat) : byteAddr s (wrap s a) k = byteAddr s a k := by
  rw [byteAddr, byteAddr, wrap, wrap, wrap, Int.emod_add_emod]

/-- A parcel whose failing bytes fail alike is not fetched, and the word of its address is the tval (R805). -/
theorem fetch16_of_failsWith {s : State} {a : Int} {f : PortFault} (h : FailsWith s .fetch a 2 f) :
    s.fetch16 (BitVec.ofInt s.w a) = .error f := by
  simp only [FailsWith, ← byteAddr_wrap s a, ← toNat_ofInt_eq_wrap] at h
  rw [State.fetch16, portFault_of_failsWith h]

theorem ofInt_setWidth_eq_addrWord (s : State) (a : Int) : (BitVec.ofInt s.w a).setWidth 64 = addrWord s a := by
  rw [setWidth_eq_addrWord, toNat_ofInt_eq_wrap, addrWord, addrWord, wrap, wrap, Int.emod_emod]

theorem rdPc_eq_ofInt (s : State) : s.rdPc s.w = BitVec.ofInt s.w s.pc.toNat := by
  rw [BitVec.ofInt_natCast, BitVec.ofNat_toNat, State.rdPc]

theorem faultCause_fetch (f : PortFault) : faultCause .fetch f = fetchCause f := by cases f <;> rfl

theorem fetchEnc_of_misaligned {s : State} (h : s.pcMisaligned = true) :
    s.fetchEnc = .error (.instrMisaligned, s.pc) := by
  simp only [State.fetchEnc, h, if_true]

/-- The first parcel fails (R804). -/
theorem fetchEnc_of_first_fails {s : State} {f : PortFault} (hp : s.pcMisaligned = false)
    (h : FailsWith s .fetch s.pc.toNat 2 f) : s.fetchEnc = .error (fetchCause f, addrWord s s.pc.toNat) := by
  simp only [State.fetchEnc, hp, rdPc_eq_ofInt, fetch16_of_failsWith h, faultCause_fetch, ofInt_setWidth_eq_addrWord,
    Bool.false_eq_true, if_false]

/-- The second parcel fails, which the low bits of the first ask for (R804, R809). -/
theorem fetchEnc_of_second_fails {s : State} {f : PortFault} {h : BitVec 16} (hp : s.pcMisaligned = false)
    (hfirst : s.fetch16 (s.rdPc s.w) = .ok h) (hfull : isFull h = true)
    (hf : FailsWith s .fetch (s.pc.toNat + 2) 2 f) :
    s.fetchEnc = .error (fetchCause f, addrWord s (s.pc.toNat + 2)) := by
  have hsecond : s.rdPc s.w + BitVec.ofNat s.w 2 = BitVec.ofInt s.w (s.pc.toNat + 2) := by
    rw [rdPc_eq_ofInt, BitVec.ofInt_add]
    rfl
  simp only [State.fetchEnc, hp, hfirst, hfull, hsecond, fetch16_of_failsWith hf, faultCause_fetch,
    ofInt_setWidth_eq_addrWord, Bool.false_eq_true, if_false, if_true]

/-- The low bits 11 of the first byte start a word (R150). -/
theorem isFull_parcel {lo : Byte} (h : lo.toNat % 4 = 3) (hi : Byte) : isFull (parcel lo hi) = true := by
  have hlow : (parcel lo hi).extractLsb' 0 2 = lo.extractLsb' 0 2 := extract_low hi lo (by decide)
  have hval : lo.extractLsb' 0 2 = 3#2 := by
    apply BitVec.eq_of_toNat_eq
    rw [BitVec.extractLsb'_toNat, Nat.shiftRight_zero]
    exact h
  rw [isFull, hlow, hval]
  rfl

theorem fetch16_begin_first {s : State} (hal : Allowed s .fetch s.pc.toNat 2) :
    s.begin.fetch16 (s.begin.rdPc s.begin.w) = .ok (parcel (fetched s 0) (fetched s 1)) := by
  have hpc : (s.rdPc s.w).toNat = byteAddr s s.pc.toNat 0 := by
    rw [byteAddr_natCast, State.rdPc, BitVec.toNat_setWidth, Nat.add_zero]
  exact fetch16_eq s (s.rdPc s.w) 0 hpc fun j hj => by simpa using hal j hj

/-- A step whose fetch fails takes the trap of the fetch. -/
theorem step_of_fetchEnc_error {s : State} {c : Cause} {tval : Word} (h : s.begin.fetchEnc = .error (c, tval)) :
    ∃ t, step s = .next t ∧ TrapTaken (stepStart s) t c tval :=
  ⟨s.begin.raise c tval, by simp only [step, h], trapTaken_raise s.begin c tval⟩

/-- Settles O9: each of the three ends `fetchEnc` with its cause and tval. -/
theorem fetchTraps : Obligations.FetchTraps := by
  intro s
  refine ⟨fun hp => ?_, fun f hp => ⟨fun hf => ?_, fun hal hlow hf => ?_⟩⟩
  · exact step_of_fetchEnc_error (fetchEnc_of_misaligned (pcMisaligned_begin_of_ne hp))
  · exact step_of_fetchEnc_error (fetchEnc_of_first_fails (s := s.begin) (pcMisaligned_begin hp) hf)
  · exact step_of_fetchEnc_error (fetchEnc_of_second_fails (s := s.begin) (pcMisaligned_begin hp)
      (fetch16_begin_first hal) (isFull_parcel hlow _) hf)

end Sys2Proof.Machine
end

section
/-! SUPPORT. Interrupts between batches (O60): which one the standard unit takes, and how it enters. -/

namespace Sys2Proof.Machine

open Sys2Proof.Spec

/-! ## Which interrupt -/

/-- The first element that satisfies a predicate comes before every other that does. -/
theorem idxOf_lt_of_find? {l : List Nat} {p : Nat → Bool} {c d : Nat} (h : l.find? p = some c) (hd : d ∈ l)
    (hp : p d = true) : d = c ∨ l.idxOf c < l.idxOf d := by
  induction l with
  | nil => cases h
  | cons x xs ih =>
    cases hx : p x with
    | true =>
      rw [List.find?_cons_of_pos hx] at h
      cases h
      by_cases hdc : d = c
      · exact .inl hdc
      · right
        rw [List.idxOf_cons_self, List.idxOf_cons_ne xs (Ne.symm hdc)]
        exact Nat.succ_pos _
    | false =>
      rw [List.find?_cons_of_neg (by simp [hx])] at h
      have hne {y : Nat} (hy : p y = true) : x ≠ y := by
        rintro rfl
        cases hx.symm.trans hy
      rw [List.idxOf_cons_ne xs (hne hp), List.idxOf_cons_ne xs (hne (List.find?_some h))]
      exact (ih h ((List.mem_cons.1 hd).resolve_left (hne hp).symm)).imp_right Nat.succ_lt_succ

/-- The interrupt is pending, enabled and open. -/
def interruptLive (u : TrapUnit) (c : Nat) : Bool := u.ip.getLsbD c && u.ie.getLsbD c && interruptOpen u c

theorem interruptOpen_iff (u : TrapUnit) (c : Nat) : interruptOpen u c = true ↔
    (InterruptToS u c → u.priv = .user ∨ (u.priv = .supervisor ∧ u.sie = true)) ∧
    (¬InterruptToS u c → u.priv ≠ .machine ∨ u.mie = true) := by
  unfold interruptOpen InterruptToS interruptToS
  cases u.mideleg.getLsbD c <;> cases u.priv <;> simp

theorem takeable_iff (u : TrapUnit) (c : Nat) : Takeable u c ↔ c ∈ interruptCodes ∧ interruptLive u c = true := by
  rw [Takeable, interruptLive, Bool.and_eq_true, Bool.and_eq_true, interruptOpen_iff, and_assoc]

/-- The choice as two searches: among the live interrupts to M-mode, then among all live ones. -/
theorem pendingInterrupt_eq (u : TrapUnit) : pendingInterrupt u =
    (interruptCodes.find? fun c => interruptLive u c && !interruptToS u c).or (interruptCodes.find? (interruptLive u)) := by
  have hfirst : (interruptCodes.find? fun c => interruptLive u c && !interruptToS u c) =
      (interruptCodes.filter (interruptLive u)).find? fun c => !interruptToS u c := by
    simp only [List.find?_filter, Bool.decide_and, Bool.decide_eq_true]
  rw [hfirst, ← List.head?_filter (p := interruptLive u)]
  unfold pendingInterrupt
  simp only
  split
  · next c h => exact (congrArg (Option.or · (interruptCodes.filter (interruptLive u)).head?) h).symm
  · next h => exact (congrArg (Option.or · (interruptCodes.filter (interruptLive u)).head?) h).symm

/-- None can be taken and none is chosen, or the one chosen can be taken and comes before every other that can. -/
theorem pendingInterrupt_cases (u : TrapUnit) :
    (pendingInterrupt u = none ∧ ∀ c, ¬Takeable u c) ∨
    ∃ c, pendingInterrupt u = some c ∧ Takeable u c ∧ ∀ d, Takeable u d → d = c ∨ TakenBefore u c d := by
  simp only [pendingInterrupt_eq, takeable_iff]
  cases hm : interruptCodes.find? fun c => interruptLive u c && !interruptToS u c with
  | some c =>
    have hc := List.find?_some hm
    simp only [Bool.and_eq_true, Bool.not_eq_true'] at hc
    obtain ⟨hlive, hno⟩ := hc
    have hno : ¬InterruptToS u c := Bool.eq_false_iff.1 hno
    refine .inr ⟨c, rfl, ⟨List.mem_of_find?_eq_some hm, hlive⟩, fun d ⟨hd, hdl⟩ => ?_⟩
    by_cases hs : InterruptToS u d
    · exact .inr (.inl ⟨hno, hs⟩)
    · have hdm : (interruptLive u d && !interruptToS u d) = true := by
        have hsd : interruptToS u d = false := Bool.eq_false_iff.2 hs
        rw [hdl, hsd]
        rfl
      exact (idxOf_lt_of_find? hm hd hdm).imp_right fun hlt => .inr ⟨by simp [hno, hs], hlt⟩
  | none =>
    have hall (d : Nat) (hd : d ∈ interruptCodes) (hdl : interruptLive u d = true) : InterruptToS u d := by
      have hs : interruptToS u d = true := by simpa [hdl] using List.find?_eq_none.1 hm d hd
      exact hs
    rw [Option.none_or]
    cases ha : interruptCodes.find? (interruptLive u) with
    | none => exact .inl ⟨rfl, fun c ⟨hc, hl⟩ => List.find?_eq_none.1 ha c hc hl⟩
    | some c =>
      have hc := List.mem_of_find?_eq_some ha
      have hl := List.find?_some ha
      refine .inr ⟨c, rfl, ⟨hc, hl⟩, fun d ⟨hd, hdl⟩ => ?_⟩
      exact (idxOf_lt_of_find? ha hd hdl).imp_right fun hlt => .inr ⟨by simp [hall c hc hl, hall d hd hdl], hlt⟩

/-! ## How it enters -/

theorem interruptCause_eq (s : State) {c : Nat} (hc : c ∈ interruptCodes) :
    interruptCause s.cfg c = BitVec.ofNat 64 (2 ^ (s.w - 1) + c) := by
  have hall (x : XLen) : ∀ c ∈ interruptCodes,
      bitAt true (x.bits - 1) ||| BitVec.ofNat 64 c = BitVec.ofNat 64 (2 ^ (x.bits - 1) + c) := by
    cases x <;> decide
  exact hall s.cfg.xlen c hc

/-- Addition in 64 bits is addition modulo 2^XLEN. -/
theorem wrap_toNat_add (s : State) (a b : Word) : wrap s (a + b).toNat = wrap s (a.toNat + b.toNat) := by
  have hdvd : ((2 : Int) ^ s.w) ∣ 2 ^ 64 := pow_dvd_pow 2 s.w_le
  rw [BitVec.toNat_add, wrap, wrap]
  push_cast
  exact Int.emod_emod_of_dvd _ hdvd

theorem wrap_interruptTarget (s : State) (tvec : Word) {c : Nat} (hc : c ∈ interruptCodes) :
    wrap s (interruptTarget tvec c).toNat = interruptPc s tvec c := by
  have hmode : tvec.getLsbD 0 = true ↔ tvec.toNat % 2 = 1 := by
    simp [BitVec.getLsbD, Nat.testBit_zero]
  have hoff : (BitVec.ofNat 64 (4 * c)).toNat = 4 * c := by
    have hsmall : ∀ c ∈ interruptCodes, 4 * c < 2 ^ 64 := by decide
    exact Nat.mod_eq_of_lt (hsmall c hc)
  rw [interruptTarget, interruptPc]
  by_cases h : tvec.toNat % 2 = 1
  · rw [if_pos (hmode.2 h), if_pos h, wrap_toNat_add, tvecBase_toNat, hoff]
    push_cast
    rfl
  · rw [if_neg (mt hmode.1 h), if_neg h, tvecBase_toNat]
    simp

theorem interruptTaken_enterInterrupt (s : State) {c : Nat} (hc : c ∈ interruptCodes) :
    InterruptTaken s (enterInterrupt s c) c := by
  refine ⟨rfl, fun h => ?_, fun h => ?_⟩ <;> rw [← interruptCause_eq s hc]
  · have hs : interruptToS s.unit c = true := h
    have hspp : (s.unit.priv == .supervisor) = decide (s.unit.priv = .supervisor) := by cases s.unit.priv <;> rfl
    simp only [enterInterrupt, hs, if_true, enterS, hspp, toNat_slot_eq_wrap, wrap_interruptTarget s _ hc, and_self]
  · have hs : interruptToS s.unit c = false := Bool.eq_false_iff.2 h
    simp only [enterInterrupt, hs, Bool.false_eq_true, if_false, enterM, toNat_slot_eq_wrap,
      wrap_interruptTarget s _ hc, and_self]

/-! ## What `takeInterrupt` does -/

theorem takeInterrupt_in_batch {s : State} (h : s.budget ≠ none) : takeInterrupt s = s := by
  unfold takeInterrupt
  cases hb : s.budget with
  | none => exact absurd hb h
  | some n => rfl

theorem takeInterrupt_none {s : State} (hu : s.cfg.unitKind = .standard) (h : pendingInterrupt s.unit = none) :
    takeInterrupt s = s := by
  unfold takeInterrupt
  cases s.budget <;> simp only [hu, h]

theorem takeInterrupt_some {s : State} {c : Nat} (hu : s.cfg.unitKind = .standard) (hb : s.budget = none)
    (h : pendingInterrupt s.unit = some c) : takeInterrupt s = enterInterrupt s c := by
  simp only [takeInterrupt, hu, hb, h]

theorem takeInterrupt_unspecified {s : State} (hu : s.cfg.unitKind = .unspecified) (hb : s.budget = none) :
    takeInterrupt s = { ({ s with draws := s.draws + 1 } : State).unitServes with
      pc := ((Config.trapPc (s.draws + 1)).setWidth s.w).setWidth 64 } := by
  simp only [takeInterrupt, hu, hb]
  rfl

/-- Settles O60: outside a batch the standard unit enters the interrupt it chooses. -/
theorem interruptEntry : Obligations.InterruptEntry := by
  refine fun s => ⟨takeInterrupt_in_batch, fun hu => ⟨fun hno => ?_, fun hb hsome => ?_⟩, fun hu hb => ?_⟩
  · obtain ⟨hn, -⟩ | ⟨c, -, hc, -⟩ := pendingInterrupt_cases s.unit
    · exact takeInterrupt_none hu hn
    · exact absurd hc (hno c)
  · obtain ⟨-, hn⟩ | ⟨c, hp, hc, hfirst⟩ := pendingInterrupt_cases s.unit
    · obtain ⟨c, hc⟩ := hsome
      exact absurd hc (hn c)
    · refine ⟨c, hc, hfirst, ?_⟩
      rw [takeInterrupt_some hu hb hp]
      exact interruptTaken_enterInterrupt s ((takeable_iff _ _).1 hc).1
  · refine ⟨_, rfl, ?_⟩
    rw [takeInterrupt_unspecified hu hb]
    exact ⟨rfl, toNat_slot_eq_wrap s _⟩

end Sys2Proof.Machine
end

section
/-! SUPPORT. The encoding formats from the other side: a word or parcel is the encoding of the fields the decoder reads
from it, where its fixed fields are those of the format. -/

namespace Sys2Proof.Machine

/-- The opcode of a word. -/
def fOp (w : BitVec 32) : BitVec 7 := w.extractLsb' 0 7

theorem ofBool_getLsbD {n : Nat} (v : BitVec n) (k : Nat) : BitVec.ofBool (v.getLsbD k) = v.extractLsb' k 1 := by
  ext i hi
  obtain rfl : i = 0 := by omega
  simp

/-! ## Words -/

section
variable {w : BitVec 32} {f3 : BitVec 3} {op : BitVec 7}

theorem encR_of_fields {f7 : BitVec 7} {rs2 rd : Reg} (h7 : fF7 w = f7) (h2 : fRs2 w = rs2) (h3 : fF3 w = f3)
    (hd : fRd w = rd) (ho : fOp w = op) : encR f7 rs2 (fRs1 w) f3 rd op = w := by
  subst h7 h2 h3 hd ho
  simp [encR, fF7, fRs2, fRs1, fF3, fRd, fOp, extract_join]

theorem encR4_of_fields {fmt : BitVec 2} (hf : fFmt w = fmt) (ho : fOp w = op) :
    encR4 (fRs3 w) fmt (fRs2 w) (fRs1 w) (fF3 w) (fRd w) op = w := by
  subst hf ho
  simp [encR4, fRs3, fFmt, fRs2, fRs1, fF3, fRd, fOp, extract_join]

theorem encAmo_of_fields {f5 : BitVec 5} {rs2 : Reg} (h5 : fF5 w = f5) (h2 : fRs2 w = rs2) (h3 : fF3 w = f3)
    (ho : fOp w = op) : encAmo f5 (fAq w) (fRl w) rs2 (fRs1 w) f3 (fRd w) op = w := by
  subst h5 h2 h3 ho
  simp [encAmo, fF5, fAq, fRl, fRs2, fRs1, fF3, fRd, fOp, ofBool_getLsbD, extract_join, -BitVec.getLsbD_eq_getElem]

theorem encShift_of_fields {f6 : BitVec 6} (h6 : fF6 w = f6) (h3 : fF3 w = f3) (ho : fOp w = op) :
    encShift f6 (fShamt6 w) (fRs1 w) f3 (fRd w) op = w := by
  subst h6 h3 ho
  simp [encShift, fF6, fShamt6, fRs1, fF3, fRd, fOp, extract_join]

theorem encI_of_fields (h3 : fF3 w = f3) (ho : fOp w = op) : encI (fImmI w) (fRs1 w) f3 (fRd w) op = w := by
  subst h3 ho
  simp [encI, fImmI, fRs1, fF3, fRd, fOp, extract_join]

theorem encS_of_fields (h3 : fF3 w = f3) (ho : fOp w = op) : encS (fImmS w) (fRs2 w) (fRs1 w) f3 op = w := by
  subst h3 ho
  simp [encS, fImmS, fRs2, fRs1, fF3, fOp, extract_high, extract_low, extract_join]

theorem encB_of_fields (h3 : fF3 w = f3) (ho : fOp w = op) : encB (fOffB w) (fRs2 w) (fRs1 w) f3 op = w := by
  subst h3 ho
  simp [encB, fOffB, fRs2, fRs1, fF3, fOp, extract_high, extract_low, extract_join]

theorem encU_of_fields (ho : fOp w = op) : encU (fImmU w) (fRd w) op = w := by
  subst ho
  simp [encU, fImmU, fRd, fOp, extract_join]

theorem encJ_of_fields (ho : fOp w = op) : encJ (fOffJ w) (fRd w) op = w := by
  subst ho
  simp [encJ, fOffJ, fRd, fOp, extract_high, extract_low, extract_join]

end

/-! ## Parcels -/

section
variable {h : BitVec 16} {f3 : BitVec 3} {op : BitVec 2}

theorem encCIW_of_fields (hid : id16 h = 0b000#3 ++ 0b00#2) : encCIW (cImm4spn h) (cRd' h) = h := by
  obtain ⟨h3, ho⟩ := (append_eq_append_iff _ _ _ _).1 hid
  simp [encCIW, cImm4spn, cRd', ← h3, ← ho, extract_high, extract_low, extract_join]

theorem encCW_of_fields (hid : id16 h = f3 ++ op) : encCW f3 (cOffW h) (cRs1' h) (cRd' h) op = h := by
  obtain ⟨rfl, rfl⟩ := (append_eq_append_iff _ _ _ _).1 hid
  simp [encCW, cOffW, cRs1', cRd', extract_high, extract_low, extract_join]

theorem encCD_of_fields (hid : id16 h = f3 ++ op) : encCD f3 (cOffD h) (cRs1' h) (cRd' h) op = h := by
  obtain ⟨rfl, rfl⟩ := (append_eq_append_iff _ _ _ _).1 hid
  simp [encCD, cOffD, cRs1', cRd', extract_high, extract_low, extract_join]

theorem encCI_of_fields {rd : Reg} (hid : id16 h = f3 ++ op) (hrd : cRd h = rd) : encCI f3 (cImm6 h) rd op = h := by
  obtain ⟨rfl, rfl⟩ := (append_eq_append_iff _ _ _ _).1 hid
  subst hrd
  simp [encCI, cImm6, cRd, extract_high, extract_low, extract_join]

theorem encCAddi16sp_of_fields (hid : id16 h = 0b011#3 ++ 0b01#2) (hrd : cRd h = 2#5) : encCAddi16sp (cImm16sp h) = h := by
  obtain ⟨h3, ho⟩ := (append_eq_append_iff _ _ _ _).1 hid
  simp [encCAddi16sp, cImm16sp, ← h3, ← ho, ← hrd, cRd, extract_high, extract_low, extract_join]

theorem encCBAlu_of_fields {f2 : BitVec 2} (hid : id16 h = f3 ++ op) (h2 : h.extractLsb' 10 2 = f2) :
    encCBAlu f3 f2 (cImm6 h) (cRs1' h) op = h := by
  obtain ⟨rfl, rfl⟩ := (append_eq_append_iff _ _ _ _).1 hid
  subst h2
  simp [encCBAlu, cImm6, cRs1', extract_high, extract_low, extract_join]

theorem encCJ_of_fields (hid : id16 h = f3 ++ op) : encCJ f3 (cOffJ h) op = h := by
  obtain ⟨rfl, rfl⟩ := (append_eq_append_iff _ _ _ _).1 hid
  simp [encCJ, cOffJ, extract_high, extract_low, extract_join]

theorem encCB_of_fields (hid : id16 h = f3 ++ op) : encCB f3 (cOffB h) (cRs1' h) op = h := by
  obtain ⟨rfl, rfl⟩ := (append_eq_append_iff _ _ _ _).1 hid
  simp [encCB, cOffB, cRs1', extract_high, extract_low, extract_join]

theorem encCLwsp_of_fields (hid : id16 h = f3 ++ op) : encCLwsp f3 (cOffLwsp h) (cRd h) op = h := by
  obtain ⟨rfl, rfl⟩ := (append_eq_append_iff _ _ _ _).1 hid
  simp [encCLwsp, cOffLwsp, cRd, extract_high, extract_low, extract_join]

theorem encCLdsp_of_fields (hid : id16 h = f3 ++ op) : encCLdsp f3 (cOffLdsp h) (cRd h) op = h := by
  obtain ⟨rfl, rfl⟩ := (append_eq_append_iff _ _ _ _).1 hid
  simp [encCLdsp, cOffLdsp, cRd, extract_high, extract_low, extract_join]

theorem encCSwsp_of_fields (hid : id16 h = f3 ++ op) : encCSwsp f3 (cOffSwsp h) (cRs2 h) op = h := by
  obtain ⟨rfl, rfl⟩ := (append_eq_append_iff _ _ _ _).1 hid
  simp [encCSwsp, cOffSwsp, cRs2, extract_high, extract_low, extract_join]

theorem encCSdsp_of_fields (hid : id16 h = f3 ++ op) : encCSdsp f3 (cOffSdsp h) (cRs2 h) op = h := by
  obtain ⟨rfl, rfl⟩ := (append_eq_append_iff _ _ _ _).1 hid
  simp [encCSdsp, cOffSdsp, cRs2, extract_high, extract_low, extract_join]

theorem encCA_of_fields {b12 : BitVec 1} {f2 : BitVec 2} (hid : id16 h = f3 ++ op) (h10 : h.extractLsb' 10 2 = 3#2)
    (hsel : h.extractLsb' 12 1 ++ h.extractLsb' 5 2 = b12 ++ f2) :
    encCA (f3 ++ b12 ++ 3#2) (cRs1' h) f2 (cRd' h) op = h := by
  obtain ⟨rfl, rfl⟩ := (append_eq_append_iff _ _ _ _).1 hid
  obtain ⟨rfl, rfl⟩ := (append_eq_append_iff _ _ _ _).1 hsel
  rw [← h10]
  simp [encCA, cRs1', cRd', extract_join]

theorem encCR_of_fields {rd rs2 : Reg} {b12 : Bool} (hid : id16 h = f3 ++ op) (h12 : h.getLsbD 12 = b12)
    (hd : cRd h = rd) (h2 : cRs2 h = rs2) : encCR (f3 ++ BitVec.ofBool b12) rd rs2 op = h := by
  obtain ⟨rfl, rfl⟩ := (append_eq_append_iff _ _ _ _).1 hid
  subst h12 hd h2
  simp [encCR, cRd, cRs2, ofBool_getLsbD, extract_join, -BitVec.getLsbD_eq_getElem]

end

end Sys2Proof.Machine
end

section
/-! SUPPORT. What the decoder answers is what was encoded: each handler, in the slot its installer call gave it, answers
for a word or parcel only a well-formed instruction of the configuration with that encoding. -/

namespace Sys2Proof.Machine

open Sys2Proof.Spec Sys2Proof.Laws

/-! ## What a decoder's answer says -/

/-- Whatever instruction the decoder answers is encoded as the word or parcel it was asked about, is well formed, and is one
of the configuration's: conditions (a) to (d) of R179. -/
def Faithful (cfg : Config) (e : Enc) (r : Except Reject Instr) : Prop :=
  ∀ i, r = .ok i → encode i = e ∧ i.wf = true ∧ i.enabled cfg = true

theorem faithful_error {cfg : Config} {e : Enc} (r : Reject) : Faithful cfg e (.error r) := nofun

theorem faithful_ok {cfg : Config} {e : Enc} {i : Instr} (henc : encode i = e) (hw : i.wf = true)
    (he : i.enabled cfg = true) : Faithful cfg e (.ok i) := by
  intro j hj
  cases hj
  exact ⟨henc, hw, he⟩

theorem faithful_accept {cfg : Config} {e : Enc} {b : Bool} {i : Instr} (h : b = true → Faithful cfg e (.ok i)) :
    Faithful cfg e (accept b i) := by
  cases b with
  | true => exact h rfl
  | false => exact faithful_error _

theorem faithful_ite {cfg : Config} {e : Enc} {c : Prop} [Decidable c] {a b : Except Reject Instr}
    (ha : c → Faithful cfg e a) (hb : ¬c → Faithful cfg e b) : Faithful cfg e (if c then a else b) := by
  split
  · next h => exact ha h
  · next h => exact hb h

/-- The call asks for what the configuration has. -/
abbrev CallOn (cfg : Config) (x : Option XLen) (e : Ext) : Prop :=
  ((x == none || x == some cfg.xlen) && cfg.extOn e) = true

/-- An instruction exists where a module makes a call that asks for what its row asks for. -/
theorem enabled_of_on {cfg : Config} {i : Instr} {x : Option XLen} {e : Ext}
    (hon : CallOn cfg x e) (hrow : (i.row.xlen, i.row.ext) = (x, e))
    (hsh : i.shamtOk cfg.xlen = true) : i.enabled cfg = true := by
  obtain ⟨rfl, rfl⟩ := Prod.mk.inj hrow
  rw [Instr.enabled, hon, hsh]
  rfl

/-- The encoding and row of an instruction whose operands pass the checks of `wf` and `shamtOk`, as one equation that `rfl`
proves of a constructor. -/
abbrev HasRow (cfg : Config) (i : Instr) (v : Enc) (x : Option XLen) (e : Ext) : Prop :=
  (encode i, i.row.xlen, i.row.ext, i.shamtOk cfg.xlen, i.wf) = (v, x, e, true, true)

theorem faithful_of_hasRow {cfg : Config} {v u : Enc} {e : Ext} {x : Option XLen} {i : Instr} (hon : CallOn cfg x e)
    (hi : HasRow cfg i v x e) (hv : v = u) : Faithful cfg u (.ok i) := by
  simp only [HasRow, Prod.mk.injEq] at hi
  obtain ⟨henc, hx, he, hsh, hw⟩ := hi
  exact faithful_ok (henc.trans hv) hw (enabled_of_on hon (by rw [hx, he]) hsh)

/-! ## Where a handler is installed -/

/-- Overwriting by the calls that apply leaves the start, or what one of them wrote. -/
theorem foldl_overwrite_cases {α β : Type} (p : α → Bool) (f : α → β) (l : List α) (b : β) :
    l.foldl (fun h i => if p i then f i else h) b = b ∨
      ∃ i ∈ l, p i = true ∧ l.foldl (fun h i => if p i then f i else h) b = f i := by
  induction l generalizing b with
  | nil => exact .inl rfl
  | cons i l ih =>
    rw [List.foldl_cons]
    obtain heq | ⟨j, hj, hp, heq⟩ := ih (if p i then f i else b)
    · rw [heq]
      cases hp : p i with
      | true => exact .inr ⟨i, List.mem_cons_self, hp, rfl⟩
      | false => exact .inl rfl
    · exact .inr ⟨j, List.mem_cons_of_mem _ hj, hp, heq⟩

/-- The installer calls with a handler. -/
def callsOf (k : FullHandler) : List FullInstall := installsFull.filter fun c => c.handler == k

def callsOfHalf (k : HalfHandler) : List HalfInstall := installsHalf.filter fun c => c.handler == k

/-- A slot holds the illegal handler, or that of a call that is made and covers the slot. -/
theorem exists_callsOf (cfg : Config) (id : BitVec 9) : slotFull cfg id = .illegal ∨
    ∃ c ∈ callsOf (slotFull cfg id), c.on cfg = true ∧ c.pattern.covers id = true := by
  obtain h | ⟨c, hc, hp, h⟩ :=
    foldl_overwrite_cases (fun i : FullInstall => i.on cfg && i.pattern.covers id) (·.handler) installsFull .illegal
  · exact .inl h
  · exact .inr ⟨c, List.mem_filter.2 ⟨hc, beq_iff_eq.2 h.symm⟩, by simpa using hp⟩

theorem exists_callsOfHalf (cfg : Config) (id : BitVec 5) : slotHalf cfg id = .illegal ∨
    ∃ c ∈ callsOfHalf (slotHalf cfg id), c.on cfg = true ∧ c.slot = id := by
  obtain h | ⟨c, hc, hp, h⟩ :=
    foldl_overwrite_cases (fun i : HalfInstall => i.on cfg && i.slot == id) (·.handler) installsHalf .illegal
  · exact .inl h
  · exact .inr ⟨c, List.mem_filter.2 ⟨hc, beq_iff_eq.2 h.symm⟩, by simpa using hp⟩

section
variable {cfg : Config} {w : BitVec 32} {k : FullHandler}

/-- The call that put a handler into the slot of a word is made, and covers the fields of the word. -/
theorem call_of_slot (hk : slotFull cfg (id32 w) = k) (hne : k ≠ .illegal) :
    ∃ c ∈ callsOf k, c.on cfg = true ∧
      hits c.pattern (w.extractLsb' 25 1) (fF3 w) (w.extractLsb' 2 5) = true := by
  obtain h | ⟨c, hc, hon, hp⟩ := exists_callsOf cfg (id32 w)
  · exact absurd (hk.symm.trans h) hne
  · rw [hk] at hc
    exact ⟨c, hc, hon, by rwa [id32, covers_append] at hp⟩

theorem fOp_eq_append {op : BitVec 5} (hfull : w.extractLsb' 0 2 = 3#2) (h : w.extractLsb' 2 5 = op) :
    fOp w = op ++ 3#2 := by
  rw [fOp, ← h, ← hfull]
  exact (extract_join (s₁ := 0) (l₁ := 2) w rfl).symm

theorem only_call_of_slot {c : FullInstall} (hk : slotFull cfg (id32 w) = k) (hne : k ≠ .illegal)
    (hc : callsOf k = [c]) :
    c.on cfg = true ∧ hits c.pattern (w.extractLsb' 25 1) (fF3 w) (w.extractLsb' 2 5) = true := by
  obtain ⟨c', hmem, h⟩ := call_of_slot hk hne
  rw [hc, List.mem_singleton] at hmem
  exact hmem ▸ h

theorem at_pair {e : Ext} {x : Option XLen} {f3 : BitVec 3} {op : BitVec 5} (hk : slotFull cfg (id32 w) = k)
    (hne : k ≠ .illegal) (hfull : w.extractLsb' 0 2 = 3#2) (hc : callsOf k = [⟨e, x, .pair f3 op, k⟩]) :
    CallOn cfg x e ∧ fF3 w = f3 ∧ fOp w = op ++ 3#2 := by
  obtain ⟨hon, hhit⟩ := only_call_of_slot hk hne hc
  simp only [hits, Bool.and_eq_true, beq_iff_eq] at hhit
  exact ⟨hon, hhit.2, fOp_eq_append hfull hhit.1⟩

theorem at_slot {e : Ext} {x : Option XLen} {b : BitVec 1} {f3 : BitVec 3} {op : BitVec 5}
    (hk : slotFull cfg (id32 w) = k) (hne : k ≠ .illegal) (hfull : w.extractLsb' 0 2 = 3#2)
    (hc : callsOf k = [⟨e, x, .slot b f3 op, k⟩]) : CallOn cfg x e ∧ fF3 w = f3 ∧ fOp w = op ++ 3#2 := by
  obtain ⟨hon, hhit⟩ := only_call_of_slot hk hne hc
  simp only [hits, Bool.and_eq_true, beq_iff_eq] at hhit
  exact ⟨hon, hhit.1.2, fOp_eq_append hfull hhit.1.1⟩

theorem at_opcode {e : Ext} {x : Option XLen} {op : BitVec 5} (hk : slotFull cfg (id32 w) = k)
    (hne : k ≠ .illegal) (hfull : w.extractLsb' 0 2 = 3#2) (hc : callsOf k = [⟨e, x, .opcode op, k⟩]) :
    CallOn cfg x e ∧ fOp w = op ++ 3#2 := by
  obtain ⟨hon, hhit⟩ := only_call_of_slot hk hne hc
  exact ⟨hon, fOp_eq_append hfull (beq_iff_eq.1 hhit)⟩

theorem at_eightSlots {e : Ext} {b : BitVec 1} {op : BitVec 5} (hk : slotFull cfg (id32 w) = k)
    (hne : k ≠ .illegal) (hfull : w.extractLsb' 0 2 = 3#2) (hc : callsOf k = eightSlots e b op k) :
    CallOn cfg none e ∧ fOp w = op ++ 3#2 := by
  obtain ⟨c, hmem, hon, hhit⟩ := call_of_slot hk hne
  obtain ⟨f3, rfl⟩ : ∃ f3, c = ⟨e, none, .slot b f3 op, k⟩ := by
    rw [hc] at hmem
    simp only [eightSlots, List.mem_cons, List.not_mem_nil, or_false] at hmem
    rcases hmem with h | h | h | h | h | h | h | h <;> exact ⟨_, h⟩
  simp only [hits, Bool.and_eq_true, beq_iff_eq] at hhit
  exact ⟨hon, fOp_eq_append hfull hhit.1.1⟩

end

/-! ## Every handler of FTABLE is faithful -/

section
variable {cfg : Config} {w : BitVec 32} {k : FullHandler}

/-- A word whose fields are those an instruction's encoding puts there, in a slot of the instruction's module. -/
theorem faithful_full {e : Ext} {x : Option XLen} {i : Instr} {v : BitVec 32} (hon : CallOn cfg x e)
    (hi : HasRow cfg i (.full v) x e) (hv : v = w) : Faithful cfg (.full w) (.ok i) :=
  faithful_of_hasRow hon hi (congrArg Enc.full hv)

theorem faithful_amoW (hk : slotFull cfg (id32 w) = .amoW) (hfull : w.extractLsb' 0 2 = 3#2) :
    Faithful cfg (.full w) (decodeAmoW w) := by
  obtain ⟨hon, h3, ho⟩ := at_pair hk nofun hfull rfl
  simp only [decodeAmoW]
  refine faithful_ite (fun h5 => faithful_accept fun h2 =>
    faithful_full hon rfl (encAmo_of_fields h5 (beq_iff_eq.1 h2) h3 ho)) fun _ => ?_
  iterate 10
    refine faithful_ite (fun h5 => faithful_full hon rfl (encAmo_of_fields h5 rfl h3 ho)) fun _ => ?_
  exact faithful_error _

theorem faithful_amoD (hk : slotFull cfg (id32 w) = .amoD) (hfull : w.extractLsb' 0 2 = 3#2) :
    Faithful cfg (.full w) (decodeAmoD w) := by
  obtain ⟨hon, h3, ho⟩ := at_pair hk nofun hfull rfl
  simp only [decodeAmoD]
  refine faithful_ite (fun h5 => faithful_accept fun h2 =>
    faithful_full hon rfl (encAmo_of_fields h5 (beq_iff_eq.1 h2) h3 ho)) fun _ => ?_
  iterate 10
    refine faithful_ite (fun h5 => faithful_full hon rfl (encAmo_of_fields h5 rfl h3 ho)) fun _ => ?_
  exact faithful_error _

theorem faithful_priv (hk : slotFull cfg (id32 w) = .priv) (hfull : w.extractLsb' 0 2 = 3#2) :
    Faithful cfg (.full w) (decodePriv w) := by
  obtain ⟨hon, h3, ho⟩ := at_pair hk nofun hfull rfl
  rw [decodePriv]
  iterate 5 refine faithful_ite (fun h => faithful_full hon rfl h.symm) fun _ => ?_
  refine faithful_accept fun h => ?_
  obtain ⟨h7, hd⟩ := Bool.and_eq_true_iff.1 h
  exact faithful_full hon rfl (encR_of_fields (beq_iff_eq.1 h7) rfl h3 (beq_iff_eq.1 hd) ho)

theorem fF7_eq_append {f5 : BitVec 5} {fmt : BitVec 2} (h5 : fF5 w = f5) (hf : fFmt w = fmt) : fF7 w = f5 ++ fmt := by
  rw [← h5, ← hf, fF5, fFmt]
  exact (extract_join (s₁ := 25) (l₁ := 2) w rfl).symm

theorem callOn_rv64 {e : Ext} (hon : CallOn cfg none e) (hx : (cfg.xlen == .rv64) = true) :
    CallOn cfg (some .rv64) e := by
  rw [CallOn, beq_iff_eq.1 hx]
  exact hon

/-- The row of an OP-FP instruction, its encoding made of funct5 and fmt, the rs2 field and the rm field. -/
abbrev HasFpRow (cfg : Config) (w : BitVec 32) (f5 : BitVec 5) (fmt : BitVec 2) (x : Option XLen) (e : Ext) (i : Instr)
    (rs2 : Reg) (rm : BitVec 3) : Prop :=
  HasRow cfg i (.full (encR (f5 ++ fmt) rs2 (fRs1 w) rm (fRd w) 0b1010011#7)) x e

section
variable {e : Ext} {f5 : BitVec 5} {fmt : BitVec 2}

/-- An OP-FP word is told by funct5 and fmt, and by rs2 or the rm field where they select the operation. -/
theorem faithful_fp {x : Option XLen} {i : Instr} {rs2 : Reg} {rm : BitVec 3} (hon : CallOn cfg x e)
    (ho : fOp w = 0b1010011#7) (hf : fFmt w = fmt) (h5 : fF5 w = f5) (h2 : fRs2 w = rs2) (h3 : fF3 w = rm)
    (hi : HasFpRow cfg w f5 fmt x e i rs2 rm) : Faithful cfg (.full w) (.ok i) :=
  faithful_full hon hi (encR_of_fields (fF7_eq_append h5 hf) h2 h3 rfl ho)

/-- The rm field selects one of two operations. -/
theorem faithful_fp_rm2 {a b : BitVec 3} {i j : Instr} (hon : CallOn cfg none e) (ho : fOp w = 0b1010011#7)
    (hf : fFmt w = fmt) (h5 : fF5 w = f5) (hi : HasFpRow cfg w f5 fmt none e i (fRs2 w) a)
    (hj : HasFpRow cfg w f5 fmt none e j (fRs2 w) b) :
    Faithful cfg (.full w) (if fF3 w = a then .ok i else accept (fF3 w == b) j) :=
  faithful_ite (fun h3 => faithful_fp hon ho hf h5 rfl h3 hi) fun _ =>
    faithful_accept fun h3 => faithful_fp hon ho hf h5 rfl (beq_iff_eq.1 h3) hj

/-- The rm field selects one of three operations. -/
theorem faithful_fp_rm3 {a b c : BitVec 3} {i j k : Instr} (hon : CallOn cfg none e) (ho : fOp w = 0b1010011#7)
    (hf : fFmt w = fmt) (h5 : fF5 w = f5) (hi : HasFpRow cfg w f5 fmt none e i (fRs2 w) a)
    (hj : HasFpRow cfg w f5 fmt none e j (fRs2 w) b) (hk : HasFpRow cfg w f5 fmt none e k (fRs2 w) c) :
    Faithful cfg (.full w)
      (if fF3 w = a then .ok i else if fF3 w = b then .ok j else accept (fF3 w == c) k) :=
  faithful_ite (fun h3 => faithful_fp hon ho hf h5 rfl h3 hi) fun _ => faithful_fp_rm2 hon ho hf h5 hj hk

/-- The rs2 field selects one of four conversions, the last two for XLEN = 64. -/
theorem faithful_fp_convert {a b c d : Reg} {i j k l : Instr} (hon : CallOn cfg none e) (ho : fOp w = 0b1010011#7)
    (hf : fFmt w = fmt) (h5 : fF5 w = f5) (hi : HasFpRow cfg w f5 fmt none e i a (fF3 w))
    (hj : HasFpRow cfg w f5 fmt none e j b (fF3 w)) (hk : HasFpRow cfg w f5 fmt (some .rv64) e k c (fF3 w))
    (hl : HasFpRow cfg w f5 fmt (some .rv64) e l d (fF3 w)) :
    Faithful cfg (.full w)
      (if fRs2 w = a then .ok i else if fRs2 w = b then .ok j
        else if fRs2 w = c then accept (cfg.xlen == .rv64) k else accept (fRs2 w == d && cfg.xlen == .rv64) l) := by
  refine faithful_ite (fun h2 => faithful_fp hon ho hf h5 h2 rfl hi) fun _ =>
    faithful_ite (fun h2 => faithful_fp hon ho hf h5 h2 rfl hj) fun _ =>
    faithful_ite (fun h2 => faithful_accept fun hx => faithful_fp (callOn_rv64 hon hx) ho hf h5 h2 rfl hk) fun _ =>
    faithful_accept fun h => ?_
  obtain ⟨h2, hx⟩ := Bool.and_eq_true_iff.1 h
  exact faithful_fp (callOn_rv64 hon hx) ho hf h5 (beq_iff_eq.1 h2) rfl hl

end

theorem faithful_opFpS (hk : slotFull cfg (id32 w) = .opFpS) (hfull : w.extractLsb' 0 2 = 3#2) :
    Faithful cfg (.full w) (decodeOpFpS cfg w) := by
  obtain ⟨hon, ho⟩ := at_eightSlots (e := .f) (b := 0) (op := 0b10100) hk nofun hfull rfl
  simp only [decodeOpFpS]
  refine faithful_ite (fun _ => faithful_error _) fun hfmt => ?_
  have hfmt : fFmt w = 0b00 := Classical.not_not.1 hfmt
  iterate 4 refine faithful_ite (fun h5 => faithful_fp hon ho hfmt h5 rfl rfl rfl) fun _ => ?_
  refine faithful_ite (fun h5 => ?sqrt) fun _ => faithful_ite (fun h5 => ?sgnj) fun _ =>
    faithful_ite (fun h5 => ?minMax) fun _ => faithful_ite (fun h5 => ?compare) fun _ =>
    faithful_ite (fun h5 => ?toInt) fun _ => faithful_ite (fun h5 => ?ofInt) fun _ =>
    faithful_ite (fun h5 => ?convert) fun _ => faithful_ite (fun h5 => ?toX) fun _ =>
    faithful_ite (fun h5 => ?ofX) fun _ => faithful_error _
  case sqrt => exact faithful_accept fun h2 => faithful_fp hon ho hfmt h5 (beq_iff_eq.1 h2) rfl rfl
  case sgnj | compare => exact faithful_fp_rm3 hon ho hfmt h5 rfl rfl rfl
  case minMax => exact faithful_fp_rm2 hon ho hfmt h5 rfl rfl
  case toInt | ofInt => exact faithful_fp_convert hon ho hfmt h5 rfl rfl rfl rfl
  case convert =>
    refine faithful_accept fun h => ?_
    obtain ⟨h2, hd⟩ := Bool.and_eq_true_iff.1 h
    exact faithful_fp (x := none) (e := .d) hd ho hfmt h5 (beq_iff_eq.1 h2) rfl rfl
  case toX =>
    refine faithful_ite (fun h3 => faithful_accept fun h2 => ?_) fun _ => faithful_accept fun h => ?_
    · exact faithful_fp hon ho hfmt h5 (beq_iff_eq.1 h2) h3 rfl
    · obtain ⟨h3, h2⟩ := Bool.and_eq_true_iff.1 h
      exact faithful_fp hon ho hfmt h5 (beq_iff_eq.1 h2) (beq_iff_eq.1 h3) rfl
  case ofX =>
    refine faithful_accept fun h => ?_
    obtain ⟨h3, h2⟩ := Bool.and_eq_true_iff.1 h
    exact faithful_fp hon ho hfmt h5 (beq_iff_eq.1 h2) (beq_iff_eq.1 h3) rfl

theorem faithful_opFpD (hk : slotFull cfg (id32 w) = .opFpD) (hfull : w.extractLsb' 0 2 = 3#2) :
    Faithful cfg (.full w) (decodeOpFpD cfg w) := by
  obtain ⟨hon, ho⟩ := at_eightSlots (e := .d) (b := 1) (op := 0b10100) hk nofun hfull rfl
  simp only [decodeOpFpD]
  refine faithful_ite (fun _ => faithful_error _) fun hfmt => ?_
  have hfmt : fFmt w = 0b01 := Classical.not_not.1 hfmt
  iterate 4 refine faithful_ite (fun h5 => faithful_fp hon ho hfmt h5 rfl rfl rfl) fun _ => ?_
  refine faithful_ite (fun h5 => ?sqrt) fun _ => faithful_ite (fun h5 => ?sgnj) fun _ =>
    faithful_ite (fun h5 => ?minMax) fun _ => faithful_ite (fun h5 => ?compare) fun _ =>
    faithful_ite (fun h5 => ?toInt) fun _ => faithful_ite (fun h5 => ?ofInt) fun _ =>
    faithful_ite (fun h5 => ?convert) fun _ => faithful_ite (fun h5 => ?toX) fun _ =>
    faithful_ite (fun h5 => ?ofX) fun _ => faithful_error _
  case sqrt | convert => exact faithful_accept fun h2 => faithful_fp hon ho hfmt h5 (beq_iff_eq.1 h2) rfl rfl
  case sgnj | compare => exact faithful_fp_rm3 hon ho hfmt h5 rfl rfl rfl
  case minMax => exact faithful_fp_rm2 hon ho hfmt h5 rfl rfl
  case toInt | ofInt => exact faithful_fp_convert hon ho hfmt h5 rfl rfl rfl rfl
  case toX =>
    refine faithful_ite (fun h3 => faithful_accept fun h => ?_) fun _ => faithful_accept fun h => ?_
    · obtain ⟨h2, hx⟩ := Bool.and_eq_true_iff.1 h
      exact faithful_fp (callOn_rv64 hon hx) ho hfmt h5 (beq_iff_eq.1 h2) h3 rfl
    · obtain ⟨h3, h2⟩ := Bool.and_eq_true_iff.1 h
      exact faithful_fp hon ho hfmt h5 (beq_iff_eq.1 h2) (beq_iff_eq.1 h3) rfl
  case ofX =>
    refine faithful_accept fun h => ?_
    obtain ⟨h32, hx⟩ := Bool.and_eq_true_iff.1 h
    obtain ⟨h3, h2⟩ := Bool.and_eq_true_iff.1 h32
    exact faithful_fp (callOn_rv64 hon hx) ho hfmt h5 (beq_iff_eq.1 h2) (beq_iff_eq.1 h3) rfl

theorem shiftOk_iff (f6 : BitVec 6) : shiftOk cfg f6 w = true ↔
    fF6 w = f6 ∧ (cfg.xlen == .rv64 || !(fShamt6 w).getLsbD 5) = true := by
  simp [shiftOk, fShamt6]

/-- A shift by an immediate is told by funct6, and its amount must be below XLEN. -/
theorem faithful_shift {e : Ext} {x : Option XLen} {i : Instr} {f6 : BitVec 6} {f3 : BitVec 3} {op : BitVec 7}
    (hon : CallOn cfg x e) (h3 : fF3 w = f3) (ho : fOp w = op) (h : shiftOk cfg f6 w = true)
    (hi : (encode i, i.row.xlen, i.row.ext, i.shamtOk cfg.xlen, i.wf) =
      (.full (encShift f6 (fShamt6 w) (fRs1 w) f3 (fRd w) op), x, e,
        cfg.xlen == .rv64 || !(fShamt6 w).getLsbD 5, true)) :
    Faithful cfg (.full w) (.ok i) := by
  obtain ⟨h6, hsh⟩ := (shiftOk_iff f6).1 h
  rw [hsh] at hi
  exact faithful_full hon hi (encShift_of_fields h6 h3 ho)

theorem fence_fields_eq_fImmI : w.extractLsb' 28 4 ++ w.extractLsb' 24 4 ++ w.extractLsb' 20 4 = fImmI w := by
  simp [fImmI, extract_join]

/-- Every handler of FTABLE answers for a word in its own slot what the word encodes. -/
theorem faithful_run (hk : slotFull cfg (id32 w) = k) (hfull : w.extractLsb' 0 2 = 3#2) :
    Faithful cfg (.full w) (k.run cfg w) := by
  cases k
  case illegal => exact faithful_error _
  case lb | lh | lw | ld | lbu | lhu | lwu | flw | fld | fenceI | addi | slti | sltiu | xori | ori | andi | addiw | jalr
      | csrrw | csrrs | csrrc | csrrwi | csrrsi | csrrci =>
    obtain ⟨hon, h3, ho⟩ := at_pair hk nofun hfull rfl
    exact faithful_full hon rfl (encI_of_fields h3 ho)
  case fence =>
    obtain ⟨hon, h3, ho⟩ := at_pair hk nofun hfull rfl
    exact faithful_full hon rfl ((congrArg (encI · _ _ _ _) fence_fields_eq_fImmI).trans (encI_of_fields h3 ho))
  case slli =>
    obtain ⟨hon, h3, ho⟩ := at_pair hk nofun hfull rfl
    exact faithful_accept fun h => faithful_shift hon h3 ho h rfl
  case srxi =>
    obtain ⟨hon, h3, ho⟩ := at_pair hk nofun hfull rfl
    exact faithful_ite (fun h => faithful_shift hon h3 ho h rfl) fun _ =>
      faithful_accept fun h => faithful_shift hon h3 ho h rfl
  case sb | sh | sw | sd | fsw | fsd =>
    obtain ⟨hon, h3, ho⟩ := at_pair hk nofun hfull rfl
    exact faithful_full hon rfl (encS_of_fields h3 ho)
  case beq | bne | blt | bge | bltu | bgeu =>
    obtain ⟨hon, h3, ho⟩ := at_pair hk nofun hfull rfl
    exact faithful_full hon rfl (encB_of_fields h3 ho)
  case lui | auipc =>
    obtain ⟨hon, ho⟩ := at_opcode hk nofun hfull rfl
    exact faithful_full hon rfl (encU_of_fields ho)
  case jal =>
    obtain ⟨hon, ho⟩ := at_opcode hk nofun hfull rfl
    exact faithful_full hon rfl (encJ_of_fields ho)
  case slliw =>
    obtain ⟨hon, h3, ho⟩ := at_pair hk nofun hfull rfl
    exact faithful_accept fun h7 => faithful_full hon rfl (encR_of_fields (beq_iff_eq.1 h7) rfl h3 rfl ho)
  case srxiw =>
    obtain ⟨hon, h3, ho⟩ := at_pair hk nofun hfull rfl
    exact faithful_ite (fun h7 => faithful_full hon rfl (encR_of_fields h7 rfl h3 rfl ho)) fun _ =>
      faithful_accept fun h7 => faithful_full hon rfl (encR_of_fields (beq_iff_eq.1 h7) rfl h3 rfl ho)
  case sll | slt | sltu | xor | or | and | sllw | mul | mulh | mulhsu | mulhu | div | divu | rem | remu | mulw | divw
      | divuw | remw | remuw =>
    obtain ⟨hon, h3, ho⟩ := at_slot hk nofun hfull rfl
    exact faithful_accept fun h7 => faithful_full hon rfl (encR_of_fields (beq_iff_eq.1 h7) rfl h3 rfl ho)
  case addSub | srx | addSubW | srxw =>
    obtain ⟨hon, h3, ho⟩ := at_slot hk nofun hfull rfl
    exact faithful_ite (fun h7 => faithful_full hon rfl (encR_of_fields h7 rfl h3 rfl ho)) fun _ =>
      faithful_accept fun h7 => faithful_full hon rfl (encR_of_fields (beq_iff_eq.1 h7) rfl h3 rfl ho)
  case fmaddS | fmsubS | fnmsubS | fnmaddS =>
    obtain ⟨hon, ho⟩ := at_eightSlots (e := .f) (b := 0) hk nofun hfull rfl
    exact faithful_accept fun hf => faithful_full hon rfl (encR4_of_fields (beq_iff_eq.1 hf) ho)
  case fmaddD | fmsubD | fnmsubD | fnmaddD =>
    obtain ⟨hon, ho⟩ := at_eightSlots (e := .d) (b := 1) hk nofun hfull rfl
    exact faithful_accept fun hf => faithful_full hon rfl (encR4_of_fields (beq_iff_eq.1 hf) ho)
  case amoW => exact faithful_amoW hk hfull
  case amoD => exact faithful_amoD hk hfull
  case opFpS => exact faithful_opFpS hk hfull
  case opFpD => exact faithful_opFpD hk hfull
  case priv => exact faithful_priv hk hfull

end

/-! ## Every handler of CTABLE is faithful -/

section
variable {cfg : Config} {h : BitVec 16} {k : HalfHandler}

theorem at_half {e : Ext} {x : Option XLen} {slot : BitVec 5} (hk : slotHalf cfg (id16 h) = k) (hne : k ≠ .illegal)
    (hc : callsOfHalf k = [⟨e, x, slot, k⟩]) : CallOn cfg x e ∧ id16 h = slot := by
  obtain hill | ⟨c, hmem, hon, hslot⟩ := exists_callsOfHalf cfg (id16 h)
  · exact absurd (hk.symm.trans hill) hne
  · rw [hk, hc, List.mem_singleton] at hmem
    subst hmem
    exact ⟨hon, hslot.symm⟩

theorem faithful_half {e : Ext} {x : Option XLen} {i : Instr} {v : BitVec 16} (hon : CallOn cfg x e)
    (hi : HasRow cfg i (.half v) x e) (hv : v = h) : Faithful cfg (.half h) (.ok i) :=
  faithful_of_hasRow hon hi (congrArg Enc.half hv)

/-- The same where the operands must be well formed or the shift amount below XLEN. -/
theorem faithful_half_if {e : Ext} {x : Option XLen} {i : Instr} {v : BitVec 16} (hon : CallOn cfg x e)
    (hi : (encode i, i.row.xlen, i.row.ext) = (.half v, x, e)) (hsh : i.shamtOk cfg.xlen = true) (hw : i.wf = true)
    (hv : v = h) : Faithful cfg (.half h) (.ok i) :=
  faithful_half hon (by simp only [Prod.mk.injEq] at hi ⊢; exact ⟨hi.1, hi.2.1, hi.2.2, hsh, hw⟩) hv

theorem shamt_cImm6 : (cImm6 h).getLsbD 5 = h.getLsbD 12 := by
  simp [cImm6, bit_high, -BitVec.getLsbD_eq_getElem]

theorem faithful_alu (hk : slotHalf cfg (id16 h) = .alu) : Faithful cfg (.half h) (decodeCAlu cfg h) := by
  obtain ⟨hon, hid⟩ := at_half hk nofun rfl
  simp only [decodeCAlu, ← shamt_cImm6]
  refine faithful_ite (fun h2 => ?srli) fun h0 => faithful_ite (fun h2 => ?srai) fun h1 =>
    faithful_ite (fun h2 => ?andi) fun h2 => ?registers
  case srli | srai => exact faithful_accept fun hsh => faithful_half_if hon rfl hsh rfl (encCBAlu_of_fields hid h2)
  case andi => exact faithful_half hon rfl (encCBAlu_of_fields hid h2)
  case registers =>
    have h10 : h.extractLsb' 10 2 = 3#2 := by
      have hlast : ∀ v : BitVec 2, v ≠ 0 → v ≠ 1 → v ≠ 2 → v = 3 := by decide
      exact hlast _ h0 h1 h2
    iterate 4
      refine faithful_ite (fun hsel =>
        faithful_half hon rfl (encCA_of_fields (f3 := 4) (op := 1) (b12 := 0) hid h10 hsel)) fun _ => ?_
    refine faithful_ite (fun hsel => faithful_accept fun hx => faithful_half (callOn_rv64 hon hx) rfl
      (encCA_of_fields (f3 := 4) (op := 1) (b12 := 1) hid h10 hsel)) fun _ => faithful_accept fun hb => ?_
    obtain ⟨hsel, hx⟩ := Bool.and_eq_true_iff.1 hb
    exact faithful_half (callOn_rv64 hon hx) rfl
      (encCA_of_fields (f3 := 4) (op := 1) (b12 := 1) hid h10 (beq_iff_eq.1 hsel))

theorem faithful_jrMvAdd (hk : slotHalf cfg (id16 h) = .jrMvAdd) : Faithful cfg (.half h) (decodeCJrMvAdd h) := by
  obtain ⟨hon, hid⟩ := at_half hk nofun rfl
  simp only [decodeCJrMvAdd]
  refine faithful_ite (fun h12 => ?set) fun h12 => ?clear
  case set =>
    have henc {rd rs2 : Reg} := encCR_of_fields (f3 := 4) (op := 2) (b12 := true) (rd := rd) (rs2 := rs2) hid h12
    refine faithful_ite (fun h2 => faithful_ite (fun hd => ?_) fun hd => ?_) fun h2 => ?_
    · exact faithful_half hon rfl (henc hd h2)
    · exact faithful_half_if hon rfl rfl (bne_iff_ne.2 hd) (henc rfl h2)
    · exact faithful_half_if hon rfl rfl (bne_iff_ne.2 h2) (henc rfl rfl)
  case clear =>
    have henc {rd rs2 : Reg} := encCR_of_fields (f3 := 4) (op := 2) (b12 := false) (rd := rd) (rs2 := rs2) hid
      (Bool.eq_false_iff.2 h12)
    refine faithful_ite (fun h2 => faithful_accept fun hd => ?_) fun h2 => ?_
    · exact faithful_half_if hon rfl rfl hd (henc rfl h2)
    · exact faithful_half_if hon rfl rfl (bne_iff_ne.2 h2) (henc rfl rfl)

/-- Every handler of CTABLE answers for a parcel in its own slot what the parcel encodes. -/
theorem faithful_runHalf (hk : slotHalf cfg (id16 h) = k) : Faithful cfg (.half h) (k.run cfg h) := by
  cases k
  case illegal => exact faithful_error _
  all_goals obtain ⟨hon, hid⟩ := at_half hk nofun rfl
  case addi4spn => exact faithful_accept fun hw => faithful_half_if hon rfl rfl hw (encCIW_of_fields hid)
  case fld | ld | fsd | sd => exact faithful_half hon rfl (encCD_of_fields hid)
  case lw | flw | sw | fsw => exact faithful_half hon rfl (encCW_of_fields hid)
  case nopAddi =>
    exact faithful_ite (fun hd => faithful_half hon rfl (encCI_of_fields hid hd)) fun hd =>
      faithful_half_if hon rfl rfl (bne_iff_ne.2 hd) (encCI_of_fields hid rfl)
  case jal | j => exact faithful_half hon rfl (encCJ_of_fields hid)
  case addiw => exact faithful_accept fun hw => faithful_half_if hon rfl rfl hw (encCI_of_fields hid rfl)
  case li => exact faithful_half hon rfl (encCI_of_fields hid rfl)
  case addi16spLui =>
    exact faithful_ite
      (fun hd => faithful_accept fun hw => faithful_half_if hon rfl rfl hw (encCAddi16sp_of_fields hid hd)) fun hd =>
      faithful_accept fun hw =>
        faithful_half_if hon rfl rfl (Bool.and_eq_true_iff.2 ⟨bne_iff_ne.2 hd, hw⟩) (encCI_of_fields hid rfl)
  case alu => exact faithful_alu hk
  case beqz | bnez => exact faithful_half hon rfl (encCB_of_fields hid)
  case slli =>
    rw [HalfHandler.run, ← shamt_cImm6]
    exact faithful_accept fun hsh => faithful_half_if hon rfl hsh rfl (encCI_of_fields hid rfl)
  case fldsp => exact faithful_half hon rfl (encCLdsp_of_fields hid)
  case lwsp => exact faithful_accept fun hw => faithful_half_if hon rfl rfl hw (encCLwsp_of_fields hid)
  case flwsp => exact faithful_half hon rfl (encCLwsp_of_fields hid)
  case ldsp => exact faithful_accept fun hw => faithful_half_if hon rfl rfl hw (encCLdsp_of_fields hid)
  case jrMvAdd => exact faithful_jrMvAdd hk
  case fsdsp | sdsp => exact faithful_half hon rfl (encCSdsp_of_fields hid)
  case swsp | fswsp => exact faithful_half hon rfl (encCSwsp_of_fields hid)

end

/-! ## Decoding gives back what was encoded -/

/-- What a parcel or word of the right length decodes to is an enabled, well-formed instruction with that encoding. -/
theorem faithful_decode_half (cfg : Config) (h : BitVec 16) : Faithful cfg (.half h) (decode cfg (.half h)) := by
  rw [decode_half]
  exact faithful_runHalf rfl

theorem faithful_decode_full (cfg : Config) {w : BitVec 32} (hfull : isFull (w.extractLsb' 0 16) = true) :
    Faithful cfg (.full w) (decode cfg (.full w)) := by
  have hlow : w.extractLsb' 0 2 = 3#2 := beq_iff_eq.1 ((isFull_word w).symm.trans hfull)
  rw [decode_full]
  exact faithful_run rfl hlow

end Sys2Proof.Machine
end

section
/-! SUPPORT. What raises IllegalInstruction (O49): a word that decodes to nothing, an instruction the configuration lacks or
whose operands are reserved, and an rm field that selects no mode. -/

namespace Sys2Proof.Machine

open Sys2Proof.Spec

/-- What a fetch answers has the length its low bits tell, so the decoder's answer on it is faithful. -/
theorem faithful_decode_of_fetchEnc {s : State} {e : Enc} (cfg : Config) (h : s.fetchEnc = .ok e) :
    Faithful cfg e (decode cfg e) := by
  simp only [State.fetchEnc] at h
  split at h
  · cases h
  · split at h
    · cases h
    · split at h
      · next lo hlo hfull =>
        split at h
        · cases h
        · next hi hhi =>
          cases h
          refine faithful_decode_full cfg ?_
          rwa [extract_low (start := 0) hi lo (Nat.le_refl 16), BitVec.extractLsb'_eq_self]
      · cases h
        exact faithful_decode_half cfg _

/-- A fetched word that is no enabled instruction's encoding decodes to nothing, and the step raises with its bits. -/
theorem step_of_no_encoding {s : State} {e : Enc} (ht : s.TablesBuilt) (hf : s.begin.fetchEnc = .ok e)
    (hno : ∀ i : Instr, i.wf = true → i.enabled s.cfg = true → encode i ≠ e) :
    step s = .next (s.begin.raise .illegalInstruction (rawBits e)) := by
  rw [step]
  simp only [hf, decodeEnc_begin ht, rawBits_eq]
  cases hd : decode s.cfg e with
  | error r => rfl
  | ok i =>
    obtain ⟨henc, hw, he⟩ := faithful_decode_of_fetchEnc s.cfg hf i hd
    exact absurd henc (hno i hw he)

/-- An instruction that some configuration lacks, or some of whose operands are reserved, is checked before it runs; the
others are live in every state. -/
theorem live_or_whenEnabled (i : Instr) (s : State) : Live i s ∨ ∃ t, exec i s = .next (s.whenEnabled i t) := by
  cases i
  case lui | auipc | jal | jalr | beq | bne | blt | bge | bltu | bgeu | lb | lh | lw | lbu | lhu | sb | sh | sw | addi
      | slti | sltiu | xori | ori | andi | add | sub | sll | slt | sltu | xor | srl | sra | or | and | fence | fenceI
      | ecall | ebreak | csrrw | csrrs | csrrc | csrrwi | csrrsi | csrrci | sret | mret | wfi | sfenceVma =>
    exact .inl ⟨rfl, rfl⟩
  all_goals exact .inr ⟨_, rfl⟩

theorem trapsIllegal_of_not_live {i : Instr} {s : State} (h : ¬Live i s) : TrapsIllegal i s := by
  obtain hl | ⟨t, hexec⟩ := live_or_whenEnabled i s
  · exact absurd hl h
  · refine trapsIllegal_of_exec (hexec.trans (congrArg _ (s.whenEnabled_off t i ?_)))
    rw [Bool.eq_false_iff, ne_eq, Bool.and_eq_true]
    exact h

theorem trapsIllegal_of_mode_none {i : Instr} {s : State} {rm : BitVec 3} {k : RMode → State} (hm : mode s rm = none)
    (h : exec i s = .next (s.withRounding i rm k)) : TrapsIllegal i s :=
  trapsIllegal_of_exec (h.trans (congrArg _ (s.withRounding_bad i rm k (by rw [← mode_eq_effectiveRM, hm]))))

/-- Settles O49: each of the three ends in `illegal`, the first since what decodes is the encoding of an instruction. -/
theorem illegalInstructionTraps : Obligations.IllegalInstructionTraps := by
  refine ⟨fun s e ht hf hno => ?_, fun i s h => trapsIllegal_of_not_live h, fun s i rm h hm => ?_⟩
  · exact ⟨_, step_of_no_encoding ht hf hno, trapTaken_raise _ _ _⟩
  · by_cases hl : Live i s
    · obtain ⟨F, rd, r, ha⟩ | ⟨F, rd, a, lo, hi, ha⟩ := h
      · obtain ⟨p, -, -, hexec⟩ := exec_of_isArith ha hl
        exact trapsIllegal_of_mode_none hm hexec
      · obtain ⟨p, sg, n, -, -, -, hexec⟩ := range_of_isToInt ha
        exact trapsIllegal_of_mode_none hm (hexec s)
    · exact trapsIllegal_of_not_live hl

end Sys2Proof.Machine
end

section
/-! SUPPORT. The order in which the installers are called does not matter, since at most one call writes a slot (O6); the
state at creation (O12). -/

namespace Sys2Proof.Machine

open Sys2Proof.Spec

/-! ## The order of installation -/

/-- Calls of which at most one applies leave the same handler in whatever order they are made. -/
theorem foldl_overwrite_perm {α β : Type} (p : α → Bool) (f : α → β) (b : β) {l l' : List α} (hperm : l.Perm l')
    (hone : (l'.filter p).length ≤ 1) :
    l.foldl (fun h i => if p i then f i else h) b = l'.foldl (fun h i => if p i then f i else h) b := by
  have hfilter : l.filter p = l'.filter p := by
    have hp := hperm.filter p
    match hl : l'.filter p, hone with
    | [], _ => exact (hl ▸ hp).eq_nil
    | [c], _ => exact (hl ▸ hp).eq_singleton
  rw [← List.foldl_filter (p := p) (f := fun _ i => f i), ← List.foldl_filter (p := p) (f := fun _ i => f i), hfilter]

def patternOpcode : FullPattern → BitVec 5
  | .slot _ _ op | .pair _ op | .opcode op => op

/-- The installer calls that write slots of one opcode of FTABLE. -/
def callsOnOpcode (op : BitVec 5) : List FullInstall := installsFull.filter fun c => op == patternOpcode c.pattern

theorem callsAt_eq_filter (b25 : BitVec 1) (f3 : BitVec 3) (op : BitVec 5) :
    callsAt b25 f3 op = (callsOnOpcode op).filter fun c => hits c.pattern b25 f3 op := by
  rw [callsAt, callsOnOpcode, List.filter_filter]
  refine List.filter_congr fun c _ => ?_
  cases c.pattern <;> grind [hits, patternOpcode]

/-- No two installer calls of FTABLE write one slot, in any configuration (R852). -/
theorem callsAt_length_le_one (b25 : BitVec 1) (f3 : BitVec 3) (op : BitVec 5) : (callsAt b25 f3 op).length ≤ 1 := by
  have hop : ∀ (op : BitVec 5) (b25 : BitVec 1) (f3 : BitVec 3),
      ((callsOnOpcode op).filter fun c => hits c.pattern b25 f3 op).length ≤ 1 := by decide +kernel
  rw [callsAt_eq_filter]
  exact hop op b25 f3

/-- Of the installer calls of CTABLE that write one slot, at most one is made at an XLEN (R176). -/
theorem callsHalf_length_le_one (x : XLen) :
    ∀ slot : BitVec 5, ((callsHalf slot).filter fun c => c.xlen == none || c.xlen == some x).length ≤ 1 := by
  cases x <;> decide +kernel

theorem installsFull_filter_length_le_one (cfg : Config) (id : BitVec 9) :
    (installsFull.filter fun c => c.on cfg && c.pattern.covers id).length ≤ 1 := by
  have hid : id.extractLsb' 8 1 ++ id.extractLsb' 5 3 ++ id.extractLsb' 0 5 = id := by
    rw [extract_join (s₁ := 5) (s₂ := 8) id rfl, extract_join (s₁ := 0) (s₂ := 5) id rfl, BitVec.extractLsb'_eq_self]
  have hcovers : (installsFull.filter fun c => c.pattern.covers id) =
      callsAt (id.extractLsb' 8 1) (id.extractLsb' 5 3) (id.extractLsb' 0 5) := by
    simp only [callsAt, ← covers_append, hid]
  rw [← List.filter_filter, hcovers]
  exact (List.length_filter_le _ _).trans (callsAt_length_le_one _ _ _)

theorem installsHalf_filter_length_le_one (cfg : Config) (id : BitVec 5) :
    (installsHalf.filter fun c => c.on cfg && c.slot == id).length ≤ 1 := by
  have hon : (installsHalf.filter fun c => c.on cfg && c.slot == id) =
      ((callsHalf id).filter fun c => c.xlen == none || c.xlen == some cfg.xlen).filter fun c => cfg.extOn c.ext := by
    rw [callsHalf, List.filter_filter, List.filter_filter]
    exact List.filter_congr fun c _ => by rw [HalfInstall.on, Bool.and_comm (cfg.extOn c.ext)]
  rw [hon]
  exact (List.length_filter_le _ _).trans (callsHalf_length_le_one _ _)

/-- Settles O6: at most one of the calls that are made writes a slot, so no order of them leaves it another handler. -/
theorem installOrderIrrelevant : Obligations.InstallOrderIrrelevant :=
  ⟨fun cfg _ id hperm => foldl_overwrite_perm (fun c : FullInstall => c.on cfg && c.pattern.covers id) (·.handler) _
      hperm (installsFull_filter_length_le_one cfg id),
    fun cfg _ id hperm => foldl_overwrite_perm (fun c : HalfInstall => c.on cfg && c.slot == id) (·.handler) _
      hperm (installsHalf_filter_length_le_one cfg id)⟩

/-! ## The state at creation -/

theorem exists_of_mem_tableFrom {α : Type} {f : Nat → α} {k a : Nat} {v : α} (h : v ∈ tableFrom f k a) : ∃ i, f i = v := by
  induction k generalizing a with
  | zero => exact ⟨a, (List.mem_singleton.1 h).symm⟩
  | succ k ih => exact (List.mem_append.1 h).elim ih ih

/-- Every row of FTABLE has the 32 slots of one value of bit 25 and funct3. -/
theorem buildFull_row_length {cfg : Config} {row : List FullHandler} (h : row ∈ buildFull cfg) : row.length = 32 := by
  obtain ⟨r, rfl⟩ := exists_of_mem_tableFrom h
  exact tableFrom_length _ 5 0

/-- CTABLE holds at each identifier what the installers leave there. -/
theorem getD_buildHalf (cfg : Config) (id : BitVec 5) : (buildHalf cfg).getD id.toNat .illegal = slotHalf cfg id := by
  rw [buildHalf, tableFrom_getD _ _ _ _ _ id.isLt, Nat.zero_add, BitVec.ofNat_toNat, BitVec.setWidth_eq]

theorem rdX_create (cfg : Config) (w : Nat) (i : Reg) : (State.create cfg).rdX w i = 0 := by
  simp [State.rdX, State.create]

theorem rdF_create (cfg : Config) (i : Reg) : (State.create cfg).rdF i = 0 := by
  simp [State.rdF, State.create]

/-- A hart whose RESET_PC fits in XLEN bits is created with the invariant: its registers, its memory and its reservation
address are all 0. -/
theorem inv_create {cfg : Config} (hfits : FitsXLen cfg cfg.resetPc) : Inv (State.create cfg) := by
  have hzero : FitsXLen cfg 0 := Nat.two_pow_pos _
  refine ⟨⟨rfl, rfl⟩, rfl, rfl, ⟨fun k => ?_, hfits, hzero⟩, Nat.zero_mod _⟩
  have hk : (State.create cfg).x[k] = 0 := by simp [State.create]
  rwa [hk]

/-- Settles O12: the registers and tables by their lemmas, each other field by its value in `State.create`. -/
theorem creationState : Obligations.CreationState := by
  rintro cfg s rfl
  exact ⟨rdX_create cfg, rdF_create cfg, rfl, rfl, rfl, rfl, rfl, rfl, rfl, tableFrom_length _ 4 0,
    fun _ => buildFull_row_length, tableFrom_length _ 5 0, slotAt_buildFull cfg, getD_buildHalf cfg,
    fun hfits halign => ⟨inv_create hfits, halign⟩⟩

end Sys2Proof.Machine
end

section
/-! SUPPORT. A step answers the same whatever budget the batch has left, but for the budget, said once per shared operation;
hence batch boundaries are invisible (O57). -/

namespace Sys2Proof.Machine

open Sys2Proof.Spec

/-- The state with another budget left to its batch. -/
def State.withBudget (s : State) (b : Option Nat) : State := { s with budget := b }

section
variable (s : State) (b : Option Nat)

/-! ## What is read of the state -/

@[simp] theorem State.withBudget_w : (s.withBudget b).w = s.w := rfl

@[simp] theorem State.withBudget_rdX (w : Nat) (i : Reg) : (s.withBudget b).rdX w i = s.rdX w i := rfl

@[simp] theorem State.withBudget_frm : (s.withBudget b).frm = s.frm := rfl

@[simp] theorem State.withBudget_verdict (k : Access) (a : Nat) : (s.withBudget b).verdict k a = s.verdict k a := rfl

@[simp] theorem State.withBudget_portFault (k : Access) (as : List Nat) :
    (s.withBudget b).portFault k as = s.portFault k as := rfl

@[simp] theorem State.withBudget_privAnswer (k : PrivKind) : (s.withBudget b).privAnswer k = s.privAnswer k := rfl

@[simp] theorem State.withBudget_decodeEnc (e : Enc) : (s.withBudget b).decodeEnc e = s.decodeEnc e := rfl

@[simp] theorem State.withBudget_begin : (s.withBudget b).begin = s.begin.withBudget (b.map (· - 1)) := rfl

@[simp] theorem State.withBudget_readLE (k : Access) (as : List Nat) :
    (s.withBudget b).readLE k as = s.readLE k as := by
  induction as with
  | nil => rfl
  | cons a as ih => rw [State.readLE, ih]; rfl

@[simp] theorem State.withBudget_memRead {w : Nat} (a : BitVec w) (n : Nat) :
    (s.withBudget b).memRead a n = s.memRead a n := by
  simp only [State.memRead, State.withBudget_portFault, State.withBudget_readLE]

@[simp] theorem State.withBudget_fetch16 {w : Nat} (a : BitVec w) : (s.withBudget b).fetch16 a = s.fetch16 a := by
  simp only [State.fetch16, State.withBudget_portFault, State.withBudget_readLE]

@[simp] theorem State.withBudget_fetchEnc : (s.withBudget b).fetchEnc = s.fetchEnc := by
  simp only [State.fetchEnc, State.withBudget_fetch16]
  rfl

/-! ## Registers, flags and traps -/

theorem State.withBudget_wrX (rd : Reg) {w : Nat} (v : BitVec w) :
    (s.withBudget b).wrX rd v = (s.wrX rd v).withBudget b := by
  unfold State.wrX
  split <;> rfl

theorem State.withBudget_result (len : Nat) (rd : Reg) {w : Nat} (v : BitVec w) :
    (s.withBudget b).result len rd v = (s.result len rd v).withBudget b := by
  rw [State.result, State.withBudget_wrX]
  rfl

theorem State.withBudget_accrue (fl : FpFlags) : (s.withBudget b).accrue fl = (s.accrue fl).withBudget b := by
  unfold State.accrue
  split <;> rfl

theorem State.withBudget_writeFp (p : Prec) (rd : Reg) (bits : Nat) :
    (s.withBudget b).writeFp p rd bits = (s.writeFp p rd bits).withBudget b := by
  cases p <;> rfl

theorem State.withBudget_opSgnj (p : Prec) (rd rs1 rs2 : Reg) (f : Bool → Bool → Bool) :
    (s.withBudget b).opSgnj p rd rs1 rs2 f = (s.opSgnj p rd rs1 rs2 f).withBudget b := by
  cases p <;> rfl

theorem State.withBudget_fpResult (p : Prec) (rd : Reg) (r : FpResult) :
    (s.withBudget b).fpResult p rd r = (s.fpResult p rd r).withBudget b := by
  rw [State.fpResult, State.withBudget_writeFp, State.withBudget_accrue]
  rfl

theorem State.withBudget_fpToX (rd : Reg) (v : BitVec s.w) (fl : FpFlags) :
    (s.withBudget b).fpToX rd v fl = (s.fpToX rd v fl).withBudget b := by
  change (((s.withBudget b).wrX rd v).accrue fl).advance 4 = _
  rw [State.withBudget_wrX, State.withBudget_accrue]
  rfl

theorem State.withBudget_raise (c : Cause) (tval : Word) :
    (s.withBudget b).raise c tval = (s.raise c tval).withBudget b := by
  unfold State.raise State.withBudget
  dsimp only
  cases s.cfg.unitKind <;> rfl

theorem State.withBudget_illegal (i : Instr) : (s.withBudget b).illegal i = (s.illegal i).withBudget b :=
  s.withBudget_raise b _ _

/-- A choice commutes with the budget when both its branches do. -/
theorem State.withBudget_ite (c : Prop) [Decidable c] {t u t' u' : State} (ht : t' = t.withBudget b)
    (hu : u' = u.withBudget b) : (if c then t' else u') = (if c then t else u).withBudget b := by
  split <;> assumption

theorem State.withBudget_whenEnabled (i : Instr) {t t' : State} (h : t' = t.withBudget b) :
    (s.withBudget b).whenEnabled i t' = (s.whenEnabled i t).withBudget b :=
  State.withBudget_ite _ _ h (s.withBudget_illegal b i)

theorem State.withBudget_withRounding (i : Instr) (rm : BitVec 3) {k k' : RMode → State}
    (h : ∀ m, k' m = (k m).withBudget b) :
    (s.withBudget b).withRounding i rm k' = (s.withRounding i rm k).withBudget b := by
  refine s.withBudget_whenEnabled b i ?_
  rw [State.withBudget_frm]
  cases effectiveRM rm s.frm with
  | none => exact s.withBudget_illegal b i
  | some m => exact h m

/-! ## Memory -/

theorem State.withBudget_writeByte (a : Nat) (v : Byte) :
    (s.withBudget b).writeByte a v = (s.writeByte a v).withBudget b := by
  unfold State.writeByte
  rw [State.withBudget_verdict]
  cases s.verdict .write a <;> rfl

theorem State.withBudget_writeLE (as : List Nat) (v : Nat) :
    (s.withBudget b).writeLE as v = (s.writeLE as v).withBudget b := by
  induction as generalizing s v with
  | nil => rfl
  | cons a as ih => rw [State.writeLE, State.withBudget_writeByte, ih]; rfl

theorem State.withBudget_memWrite {w : Nat} (a : BitVec w) (n : Nat) (v : BitVec (8 * n)) :
    (s.withBudget b).memWrite a n v = (s.memWrite a n v).map (·.withBudget b) := by
  unfold State.memWrite
  rw [State.withBudget_portFault, State.withBudget_writeLE]
  cases s.portFault .write (byteAddrs a n) <;> rfl

theorem State.withBudget_load {w : Nat} (a : BitVec w) (n : Nat) {k k' : BitVec (8 * n) → State}
    (h : ∀ v, k' v = (k v).withBudget b) : (s.withBudget b).load a n k' = (s.load a n k).withBudget b := by
  unfold State.load
  rw [State.withBudget_memRead]
  refine State.withBudget_ite b _ (s.withBudget_raise b _ _) ?_
  cases s.memRead a n with
  | error f => exact s.withBudget_raise b _ _
  | ok v => exact h v

theorem State.withBudget_store (len : Nat) {w : Nat} (a : BitVec w) (n : Nat) (v : BitVec (8 * n)) :
    (s.withBudget b).store len a n v = (s.store len a n v).withBudget b := by
  unfold State.store
  rw [State.withBudget_memWrite]
  refine State.withBudget_ite b _ (s.withBudget_raise b _ _) ?_
  cases s.memWrite a n v with
  | error f => exact s.withBudget_raise b _ _
  | ok t => rfl

theorem State.withBudget_opFload (p : Prec) (len : Nat) (rd rs1 : Reg) (imm : BitVec s.w) :
    (s.withBudget b).opFload p len rd rs1 imm = (s.opFload p len rd rs1 imm).withBudget b := by
  cases p <;> exact s.withBudget_load b _ _ fun _ => rfl

theorem State.withBudget_opFstore (p : Prec) (len : Nat) (rs1 rs2 : Reg) (imm : BitVec s.w) :
    (s.withBudget b).opFstore p len rs1 rs2 imm = (s.opFstore p len rs1 rs2 imm).withBudget b := by
  cases p <;> exact s.withBudget_store b _ _ _ _

/-! ## Atomic accesses -/

theorem State.withBudget_opLr (n : Nat) (rd rs1 : Reg) :
    (s.withBudget b).opLr n rd rs1 = (s.opLr n rd rs1).withBudget b := by
  simp only [State.opLr, State.withBudget_w, State.withBudget_rdX, State.withBudget_memRead]
  refine State.withBudget_ite b _ (s.withBudget_raise b _ _) ?_
  cases s.memRead (s.rdX s.w rs1) n with
  | error f => exact s.withBudget_raise b _ _
  | ok v =>
    exact State.withBudget_result { s with resvValid := true, resvAddr := resvBlock s.cfg (s.rdX s.w rs1) } b _ _ _

theorem State.withBudget_opSc (n : Nat) (rd rs1 rs2 : Reg) :
    (s.withBudget b).opSc n rd rs1 rs2 = (s.opSc n rd rs1 rs2).withBudget b := by
  simp only [State.opSc, State.withBudget_w, State.withBudget_rdX, State.withBudget_memWrite]
  refine State.withBudget_ite b _ (s.withBudget_raise b _ _)
    (State.withBudget_ite b _ ?_ (s.dropResv.withBudget_result b _ _ _))
  cases s.memWrite (s.rdX s.w rs1) n ((s.rdX s.w rs2).setWidth (8 * n)) with
  | error f => exact s.withBudget_raise b _ _
  | ok t => exact t.dropResv.withBudget_result b _ _ _

theorem State.withBudget_memAmo {w : Nat} (a : BitVec w) (n : Nat) (g : BitVec (8 * n) → BitVec (8 * n)) :
    (s.withBudget b).memAmo a n g = (s.memAmo a n g).map fun r => (r.1, r.2.withBudget b) := by
  simp only [State.memAmo, State.withBudget_memRead, State.withBudget_memWrite]
  cases s.memRead a n with
  | error f => rfl
  | ok old =>
    dsimp only
    cases s.memWrite a n (g old) <;> rfl

theorem State.withBudget_opAmo (n : Nat) (rd rs1 rs2 : Reg) (op : BitVec (8 * n) → BitVec (8 * n) → BitVec (8 * n)) :
    (s.withBudget b).opAmo n rd rs1 rs2 op = (s.opAmo n rd rs1 rs2 op).withBudget b := by
  simp only [State.opAmo, State.withBudget_w, State.withBudget_rdX, State.withBudget_memAmo]
  refine State.withBudget_ite b _ (s.withBudget_raise b _ _) ?_
  cases s.memAmo (s.rdX s.w rs1) n fun old => op old ((s.rdX s.w rs2).setWidth (8 * n)) with
  | error f => exact s.withBudget_raise b _ _
  | ok r => exact r.2.withBudget_result b _ _ _

/-! ## Control transfers and the external unit -/

theorem State.withBudget_jumpLink (len : Nat) (rd : Reg) (target : BitVec s.w) :
    (s.withBudget b).jumpLink len rd target = (s.jumpLink len rd target).withBudget b := by
  refine State.withBudget_ite b _ (s.withBudget_raise b _ _) ?_
  rw [State.withBudget_wrX]
  rfl

theorem State.withBudget_opBranch (len : Nat) (cond : Bool) (off : BitVec s.w) :
    (s.withBudget b).opBranch len cond off = (s.opBranch len cond off).withBudget b :=
  State.withBudget_ite b _ (State.withBudget_ite b _ (s.withBudget_raise b _ _) rfl) rfl

theorem State.withBudget_privAfter (k : PrivKind) : (s.withBudget b).privAfter k = (s.privAfter k).withBudget b := by
  unfold State.privAfter State.withBudget
  dsimp only
  cases s.cfg.unitKind <;> rfl

theorem State.withBudget_privileged (i : Instr) (k : PrivKind) :
    (s.withBudget b).privileged i k = (s.privileged i k).withBudget b := by
  unfold State.privileged
  rw [State.withBudget_privAfter, State.withBudget_privAnswer]
  cases s.privAnswer k with
  | illegal => exact s.withBudget_illegal b i
  | redirect t => exact State.withBudget_ite b _ rfl rfl
  | proceed => rfl

theorem State.withBudget_fpCsrWrite {w : Nat} (csr : BitVec 12) (v : BitVec w) :
    (s.withBudget b).fpCsrWrite csr v = (s.fpCsrWrite csr v).withBudget b :=
  State.withBudget_ite b _ rfl (State.withBudget_ite b _ rfl rfl)

theorem State.withBudget_csrAccess {w : Nat} (csr : BitVec 12) (newOf : BitVec w → BitVec w) (r d : Bool) :
    (s.withBudget b).csrAccess csr newOf r d = (s.csrAccess csr newOf r d).map fun a => (a.1, a.2.withBudget b) := by
  unfold State.csrAccess State.withBudget
  dsimp only
  cases s.cfg.unitKind with
  | unspecified => cases Config.csrAnswer s.draws csr <;> rfl
  | standard =>
    cases csrForbidden s.unit csr d with
    | true => rfl
    | false =>
      cases unitCsrRead s.cfg s.fs s.unit csr with
      | none => cases Config.csrAnswer s.draws csr <;> rfl
      | some old => cases d <;> rfl

theorem State.withBudget_csrInstr (i : Instr) (rd : Reg) (csr : BitVec 12) (newOf : BitVec s.w → BitVec s.w) (r d : Bool) :
    (s.withBudget b).csrInstr i rd csr newOf r d = (s.csrInstr i rd csr newOf r d).withBudget b := by
  simp only [State.csrInstr, State.withBudget_w, State.withBudget_csrAccess]
  refine State.withBudget_ite b _ (State.withBudget_ite b _ ?_ (s.withBudget_illegal b i)) ?_
  · cases d with
    | false => exact s.withBudget_result b _ _ _
    | true =>
      simp only [if_true, State.withBudget_fpCsrWrite]
      exact State.withBudget_result _ b _ _ _
  · cases s.csrAccess csr newOf r d with
    | none => exact s.withBudget_illegal b i
    | some a => exact a.2.withBudget_result b _ _ _

/-! ## Instructions and steps -/

/-- An instruction answers the same with any budget, but for the budget. -/
theorem exec_withBudget (i : Instr) : ∃ t, exec i s = .next t ∧ exec i (s.withBudget b) = .next (t.withBudget b) := by
  cases i <;> refine ⟨_, rfl, congrArg Host.Outcome.next ?_⟩
  case lui | auipc | addi | slti | sltiu | xori | ori | andi | add | sub | sll | slt | sltu | xor | srl | sra | or | and =>
    exact s.withBudget_result b _ _ _
  case slli | srli | srai | addiw | slliw | srliw | sraiw | addw | subw | sllw | srlw | sraw | mul | mulh | mulhsu | mulhu
      | div | divu | rem | remu | mulw | divw | divuw | remw | remuw | fmvXW | fmvXD | cAddi4spn | cNop | cAddi | cAddiw | cLi
      | cAddi16sp | cLui | cSrli | cSrai | cAndi | cSub | cXor | cOr | cAnd | cSubw | cAddw | cSlli | cMv | cAdd =>
    exact s.withBudget_whenEnabled b _ (s.withBudget_result b _ _ _)
  case lb | lh | lw | lbu | lhu => exact s.withBudget_load b _ _ fun _ => s.withBudget_result b _ _ _
  case ld | lwu | cLw | cLd | cLwsp | cLdsp =>
    exact s.withBudget_whenEnabled b _ (s.withBudget_load b _ _ fun _ => s.withBudget_result b _ _ _)
  case sb | sh | sw => exact s.withBudget_store b _ _ _ _
  case sd | cSw | cSd | cSwsp | cSdsp => exact s.withBudget_whenEnabled b _ (s.withBudget_store b _ _ _ _)
  case flw | fld | cFlw | cFld | cFlwsp | cFldsp =>
    exact s.withBudget_whenEnabled b _ (s.withBudget_opFload b _ _ _ _ _)
  case fsw | fsd | cFsw | cFsd | cFswsp | cFsdsp =>
    exact s.withBudget_whenEnabled b _ (s.withBudget_opFstore b _ _ _ _ _)
  case jal | jalr => exact s.withBudget_jumpLink b _ _ _
  case cJal | cJ | cJr | cJalr => exact s.withBudget_whenEnabled b _ (s.withBudget_jumpLink b _ _ _)
  case beq | bne | blt | bge | bltu | bgeu => exact s.withBudget_opBranch b _ _ _
  case cBeqz | cBnez => exact s.withBudget_whenEnabled b _ (s.withBudget_opBranch b _ _ _)
  case fence | fenceI => rfl
  case ecall | ebreak => exact s.withBudget_raise b _ _
  case cEbreak => exact s.withBudget_whenEnabled b _ (s.withBudget_raise b _ _)
  case csrrw | csrrs | csrrc | csrrwi | csrrsi | csrrci => exact s.withBudget_csrInstr b _ _ _ _ _ _
  case sret | mret | wfi | sfenceVma => exact s.withBudget_privileged b _ _
  case lrW | lrD => exact s.withBudget_whenEnabled b _ (s.withBudget_opLr b _ _ _)
  case scW | scD => exact s.withBudget_whenEnabled b _ (s.withBudget_opSc b _ _ _ _)
  case amoswapW | amoaddW | amoxorW | amoandW | amoorW | amominW | amomaxW | amominuW | amomaxuW | amoswapD | amoaddD
      | amoxorD | amoandD | amoorD | amominD | amomaxD | amominuD | amomaxuD =>
    exact s.withBudget_whenEnabled b _ (s.withBudget_opAmo b _ _ _ _ _)
  case fmaddS | fmsubS | fnmsubS | fnmaddS | faddS | fsubS | fmulS | fdivS | fsqrtS | fcvtSW | fcvtSWu | fcvtSL | fcvtSLu
      | fmaddD | fmsubD | fnmsubD | fnmaddD | faddD | fsubD | fmulD | fdivD | fsqrtD | fcvtDW | fcvtDWu | fcvtDL | fcvtDLu
      | fcvtSD | fcvtDS =>
    exact s.withBudget_withRounding b _ _ fun _ => s.withBudget_fpResult b _ _ _
  case fcvtWS | fcvtWuS | fcvtLS | fcvtLuS | fcvtWD | fcvtWuD | fcvtLD | fcvtLuD =>
    exact s.withBudget_withRounding b _ _ fun _ => s.withBudget_fpToX b _ _ _
  case fsgnjS | fsgnjnS | fsgnjxS | fsgnjD | fsgnjnD | fsgnjxD =>
    exact s.withBudget_whenEnabled b _ (s.withBudget_opSgnj b _ _ _ _ _)
  case fminS | fmaxS | fminD | fmaxD => exact s.withBudget_whenEnabled b _ (s.withBudget_fpResult b _ _ _)
  case feqS | fltS | fleS | fclassS | feqD | fltD | fleD | fclassD =>
    exact s.withBudget_whenEnabled b _ (s.withBudget_fpToX b _ _ _)
  case fmvWX | fmvDX => exact s.withBudget_whenEnabled b _ rfl

end

/-- A step answers the same with any budget, but for the budget. -/
theorem step_withBudget {s t : State} (b : Option Nat) (h : step s = .next t) :
    step (s.withBudget b) = .next (t.withBudget (b.map (· - 1))) := by
  simp only [step, State.withBudget_begin, State.withBudget_fetchEnc, State.withBudget_decodeEnc] at h ⊢
  cases hf : s.begin.fetchEnc with
  | error r =>
    simp only [hf] at h ⊢
    cases h
    rw [State.withBudget_raise]
  | ok e =>
    simp only [hf] at h ⊢
    cases hd : s.begin.decodeEnc e with
    | error r =>
      simp only [hd] at h ⊢
      cases h
      exact congrArg Host.Outcome.next (State.withBudget_raise _ _ _ _)
    | ok i =>
      simp only [hd] at h ⊢
      obtain ⟨u, hu, hub⟩ := exec_withBudget s.begin (b.map (· - 1)) i
      cases h.symm.trans hu
      exact hub

/-- Settles O57: the batch of 1 and the longer one make the same first step but for the budget, and what the longer one has
left after it is a batch of n. -/
theorem batchBoundaryInvisible : Obligations.BatchBoundaryInvisible := by
  intro s u n hu htrap
  obtain ⟨hover, htraps, -⟩ := batchEnds s 1
  cases he : s.eventFlag with
  | true =>
    obtain ⟨hoverLong, -, -⟩ := batchEnds s (n + 1)
    obtain ⟨hoverRest, -, -⟩ := batchEnds u n
    cases hu.symm.trans (hover (.inr he))
    exact (hoverLong (.inr he)).trans (hoverRest (.inr he)).symm
  | false =>
    obtain ⟨t, ht⟩ := stepNeverStops (s.startBatch 1)
    have hlong : step (s.startBatch (n + 1)) = .next (t.withBudget (some n)) :=
      step_withBudget (s := s.startBatch 1) (some (n + 1)) ht
    by_cases hc : t.trapCall = none
    · obtain ⟨-, -, hone⟩ := batchEnds s 0
      obtain ⟨-, -, hrest⟩ := batchEnds s n
      cases hu.symm.trans ((hone t he ht hc).2 rfl)
      exact (hrest _ he hlong hc).1
    · cases hu.symm.trans (htraps t Nat.one_ne_zero he ht hc)
      exact absurd htrap hc

end Sys2Proof.Machine
end

section
/-! SUPPORT. The decoder and the encoder are inverse to each other (O1, O2), and words of the spec decode as it says (O5). -/

namespace Sys2Proof.Machine

open Sys2Proof.Spec

/-- Settles O1: the decoder inverts the encoder. -/
theorem decodeOfEncode : Obligations.DecodeOfEncode := fun _ _ hw he => decode_encode hw he

/-- Settles O2: the decoder is faithful on parcels and on words. -/
theorem encodeOfDecode : Obligations.EncodeOfDecode
  | cfg, .half h, i, _, hd => faithful_decode_half cfg h i hd
  | cfg, .full _, i, hfull, hd => faithful_decode_full cfg hfull i hd

/-- Settles O5, by running the decoder on each word. -/
theorem exampleWordsDecode : Obligations.ExampleWordsDecode :=
  ⟨rfl, rfl, rfl, rfl, rfl, rfl, rfl, rfl, rfl, rfl, rfl, rfl⟩

end Sys2Proof.Machine
end

section
/-! SUPPORT. Every encoding has the fixed bits of its row (O3). A mask is an encoding of the same format, with ones in the
fields the row fixes and zeros in its operands, so a masked encoding is masked field by field. -/

namespace Sys2Proof.Machine

open BitVec (and_allOnes and_zero)

theorem append_masked {n k : Nat} {x m v : BitVec n} {y m' v' : BitVec k} (hx : x &&& m = v) (hy : y &&& m' = v') :
    (x ++ y) &&& (m ++ m') = v ++ v' := by
  rw [BitVec.and_append, hx, hy]

/-! ## Masked words -/

section
variable {rs3 rs2 rs1 rd : Reg} {f3 : BitVec 3} {op : BitVec 7}

theorem encR_masked {f7 m₇ v₇ : BitVec 7} {m₂ m₁ md v₂ v₁ vd : Reg} {mf vf : BitVec 3} (h7 : f7 &&& m₇ = v₇)
    (h2 : rs2 &&& m₂ = v₂) (h1 : rs1 &&& m₁ = v₁) (hf : f3 &&& mf = vf) (hd : rd &&& md = vd) :
    encR f7 rs2 rs1 f3 rd op &&& encR m₇ m₂ m₁ mf md (.allOnes 7) = encR v₇ v₂ v₁ vf vd op :=
  append_masked (append_masked (append_masked (append_masked (append_masked h7 h2) h1) hf) hd) and_allOnes

theorem encR_and {f7 : BitVec 7} : encR f7 rs2 rs1 f3 rd op &&& 0xFE00707F#32 = encR f7 0#5 0#5 f3 0#5 op :=
  encR_masked and_allOnes and_zero and_zero and_allOnes and_zero

/-- The rows with an rm field. -/
theorem encR_and_rm {f7 : BitVec 7} : encR f7 rs2 rs1 f3 rd op &&& 0xFE00007F#32 = encR f7 0#5 0#5 0#3 0#5 op :=
  encR_masked and_allOnes and_zero and_zero and_zero and_zero

/-- The rows with one source. -/
theorem encR_and_unary {f7 : BitVec 7} : encR f7 rs2 rs1 f3 rd op &&& 0xFFF0707F#32 = encR f7 rs2 0#5 f3 0#5 op :=
  encR_masked and_allOnes and_allOnes and_zero and_allOnes and_zero

theorem encR_and_unary_rm {f7 : BitVec 7} : encR f7 rs2 rs1 f3 rd op &&& 0xFFF0007F#32 = encR f7 rs2 0#5 0#3 0#5 op :=
  encR_masked and_allOnes and_allOnes and_zero and_zero and_zero

/-- SFENCE.VMA has no destination. -/
theorem encR_and_noRd {f7 : BitVec 7} : encR f7 rs2 rs1 f3 rd op &&& 0xFE007FFF#32 = encR f7 0#5 0#5 f3 rd op :=
  encR_masked and_allOnes and_zero and_zero and_allOnes and_allOnes

theorem encR4_and {fmt : BitVec 2} :
    encR4 rs3 fmt rs2 rs1 f3 rd op &&& 0x600007F#32 = encR4 0#5 fmt 0#5 0#5 0#3 0#5 op :=
  append_masked (append_masked (append_masked (append_masked (append_masked (append_masked (m := 0#5)
    (m' := .allOnes 2) and_zero and_allOnes) and_zero) and_zero) and_zero) and_zero) and_allOnes

/-- The ordering bits are always operands. -/
theorem encAmo_masked {f5 : BitVec 5} {aq rl : Bool} {m₂ v₂ : Reg} (h2 : rs2 &&& m₂ = v₂) :
    encAmo f5 aq rl rs2 rs1 f3 rd op &&& encAmo (.allOnes 5) false false m₂ 0#5 (.allOnes 3) 0#5 (.allOnes 7) =
      encAmo f5 false false v₂ 0#5 f3 0#5 op :=
  append_masked (append_masked (append_masked (append_masked (append_masked (append_masked (append_masked and_allOnes
    and_zero) and_zero) h2) and_zero) and_allOnes) and_zero) and_allOnes

theorem encAmo_and {f5 : BitVec 5} {aq rl : Bool} :
    encAmo f5 aq rl rs2 rs1 f3 rd op &&& 0xF800707F#32 = encAmo f5 false false 0#5 0#5 f3 0#5 op :=
  encAmo_masked and_zero

theorem encAmo_and_unary {f5 : BitVec 5} {aq rl : Bool} :
    encAmo f5 aq rl rs2 rs1 f3 rd op &&& 0xF9F0707F#32 = encAmo f5 false false rs2 0#5 f3 0#5 op :=
  encAmo_masked and_allOnes

theorem encShift_and {f6 shamt : BitVec 6} :
    encShift f6 shamt rs1 f3 rd op &&& 0xFC00707F#32 = encShift f6 0#6 0#5 f3 0#5 op :=
  append_masked (append_masked (append_masked (append_masked (append_masked and_allOnes and_zero) and_zero)
    and_allOnes) and_zero) and_allOnes

theorem encI_and {imm : BitVec 12} : encI imm rs1 f3 rd op &&& 0x707F#32 = encI 0#12 0#5 f3 0#5 op :=
  append_masked (append_masked (append_masked (append_masked and_zero and_zero) and_allOnes) and_zero) and_allOnes

theorem encS_and {imm : BitVec 12} : encS imm rs2 rs1 f3 op &&& 0x707F#32 = encS 0#12 0#5 0#5 f3 op :=
  append_masked (append_masked (append_masked (append_masked (append_masked and_zero and_zero) and_zero) and_allOnes)
    and_zero) and_allOnes

theorem encB_and {off : BitVec 12} : encB off rs2 rs1 f3 op &&& 0x707F#32 = encB 0#12 0#5 0#5 f3 op :=
  append_masked (append_masked (append_masked (append_masked (append_masked (append_masked (append_masked
    and_zero and_zero) and_zero) and_zero) and_allOnes) and_zero) and_zero) and_allOnes

theorem encU_and {imm : BitVec 20} : encU imm rd op &&& 0x7F#32 = encU 0#20 0#5 op :=
  append_masked (append_masked and_zero and_zero) and_allOnes

theorem encJ_and {off : BitVec 20} : encJ off rd op &&& 0x7F#32 = encJ 0#20 0#5 op :=
  append_masked (append_masked (append_masked (append_masked (append_masked and_zero and_zero) and_zero) and_zero)
    and_zero) and_allOnes

end

/-! ## Masked parcels -/

/-- A mask of a parcel is zero above it. -/
theorem half_masked {h m v : BitVec 16} {mask match_ : BitVec 32} (hv : h &&& m = v) (hm : m.setWidth 32 = mask)
    (hmatch : v.setWidth 32 = match_) : h.setWidth 32 &&& mask = match_ := by
  rw [← hm, ← BitVec.setWidth_and, hv, hmatch]

/-- Most rows of the C extension fix exactly the identifier (R171). -/
theorem half_and_id16 {h : BitVec 16} {f3 : BitVec 3} {op : BitVec 2} (hid : id16 h = f3 ++ op) :
    h &&& 0xE003#16 = f3 ++ 0#11 ++ op := by
  obtain ⟨h3, ho⟩ := (append_eq_append_iff _ _ _ _).1 hid
  have hsplit : h = h.extractLsb' 13 3 ++ h.extractLsb' 2 11 ++ h.extractLsb' 0 2 := by simp [extract_join]
  rw [hsplit, h3, ho]
  exact append_masked (append_masked and_allOnes and_zero) and_allOnes

section
variable {f3 : BitVec 3} {f2 op : BitVec 2} {imm : BitVec 6} {rd rs2 : Reg} {rd' rs2' : CReg}

theorem encCI_and_noRd : encCI f3 imm rd op &&& 0xEF83#16 = encCI f3 0#6 rd op :=
  append_masked (append_masked (append_masked (append_masked and_allOnes and_zero) and_allOnes) and_zero) and_allOnes

theorem encCAddi16sp_and : encCAddi16sp imm &&& 0xEF83#16 = encCAddi16sp 0#6 :=
  append_masked (append_masked (append_masked (append_masked (append_masked (append_masked (append_masked
    and_allOnes and_zero) and_allOnes) and_zero) and_zero) and_zero) and_zero) and_allOnes

theorem encCBAlu_and : encCBAlu f3 f2 imm rd' op &&& 0xEC03#16 = encCBAlu f3 f2 0#6 0#3 op :=
  append_masked (append_masked (append_masked (append_masked (append_masked and_allOnes and_zero) and_allOnes) and_zero)
    and_zero) and_allOnes

theorem encCA_and {f6 : BitVec 6} : encCA f6 rd' f2 rs2' op &&& 0xFC63#16 = encCA f6 0#3 f2 0#3 op :=
  append_masked (append_masked (append_masked (append_masked and_allOnes and_zero) and_allOnes) and_zero) and_allOnes

theorem encCR_and {f4 : BitVec 4} : encCR f4 rd rs2 op &&& 0xF003#16 = encCR f4 0#5 0#5 op :=
  append_masked (append_masked (append_masked and_allOnes and_zero) and_zero) and_allOnes

theorem encCR_and_unary {f4 : BitVec 4} : encCR f4 rd rs2 op &&& 0xF07F#16 = encCR f4 0#5 rs2 op :=
  append_masked (append_masked (append_masked and_allOnes and_zero) and_allOnes) and_allOnes

end

/-! ## Rows -/

/-- Settles O3, format by format and mask by mask: the masked encoding has no operand left, and is the row's match. -/
theorem encodingHasRowBits : Obligations.EncodingHasRowBits := by
  intro i
  cases i
  case lui | auipc => exact encU_and
  case jal => exact encJ_and
  case jalr | lb | lh | lw | ld | lbu | lhu | lwu | addi | slti | sltiu | xori | ori | andi | addiw | fence | fenceI
      | csrrw | csrrs | csrrc | csrrwi | csrrsi | csrrci | flw | fld =>
    exact encI_and
  case beq | bne | blt | bge | bltu | bgeu => exact encB_and
  case sb | sh | sw | sd | fsw | fsd => exact encS_and
  case slli | srli | srai => exact encShift_and
  case add | sub | sll | slt | sltu | xor | srl | sra | or | and | slliw | srliw | sraiw | addw | subw | sllw | srlw
      | sraw | mul | mulh | mulhsu | mulhu | div | divu | rem | remu | mulw | divw | divuw | remw | remuw | fsgnjS
      | fsgnjnS | fsgnjxS | fminS | fmaxS | feqS | fltS | fleS | fsgnjD | fsgnjnD | fsgnjxD | fminD | fmaxD | feqD
      | fltD | fleD =>
    exact encR_and
  case ecall | ebreak | sret | mret | wfi | cEbreak => rfl
  case sfenceVma => exact encR_and_noRd
  case lrW | lrD => exact encAmo_and_unary
  case scW | amoaddW | amoswapW | amoxorW | amoorW | amoandW | amominW | amomaxW | amominuW | amomaxuW | scD | amoaddD
      | amoswapD | amoxorD | amoorD | amoandD | amominD | amomaxD | amominuD | amomaxuD =>
    exact encAmo_and
  case fmaddS | fmsubS | fnmsubS | fnmaddS | fmaddD | fmsubD | fnmsubD | fnmaddD => exact encR4_and
  case faddS | fsubS | fmulS | fdivS | faddD | fsubD | fmulD | fdivD => exact encR_and_rm
  case fsqrtS | fcvtWS | fcvtSW | fcvtWuS | fcvtSWu | fcvtLS | fcvtSL | fcvtLuS | fcvtSLu | fsqrtD | fcvtWD | fcvtDW
      | fcvtWuD | fcvtDWu | fcvtLD | fcvtDL | fcvtLuD | fcvtDLu | fcvtSD | fcvtDS =>
    exact encR_and_unary_rm
  case fclassS | fmvXW | fmvWX | fclassD | fmvXD | fmvDX => exact encR_and_unary
  case cAddi4spn => exact half_masked (half_and_id16 (fields_encCIW _ _).1) rfl rfl
  case cFld | cLd | cFsd | cSd => exact half_masked (half_and_id16 (fields_encCD _ _ _ _ _).1) rfl rfl
  case cLw | cFlw | cSw | cFsw => exact half_masked (half_and_id16 (fields_encCW _ _ _ _ _).1) rfl rfl
  case cNop => exact half_masked encCI_and_noRd rfl rfl
  case cAddi | cAddiw | cLi | cLui | cSlli => exact half_masked (half_and_id16 (fields_encCI _ _ _ _).1) rfl rfl
  case cJal | cJ => exact half_masked (half_and_id16 (fields_encCJ _ _ _).1) rfl rfl
  case cAddi16sp => exact half_masked encCAddi16sp_and rfl rfl
  case cSrli | cSrai | cAndi => exact half_masked encCBAlu_and rfl rfl
  case cSub | cXor | cOr | cAnd | cSubw | cAddw => exact half_masked encCA_and rfl rfl
  case cBeqz | cBnez => exact half_masked (half_and_id16 (fields_encCB _ _ _ _).1) rfl rfl
  case cFldsp | cLdsp => exact half_masked (half_and_id16 (fields_encCLdsp _ _ _ _).1) rfl rfl
  case cLwsp | cFlwsp => exact half_masked (half_and_id16 (fields_encCLwsp _ _ _ _).1) rfl rfl
  case cJr | cJalr => exact half_masked encCR_and_unary rfl rfl
  case cMv | cAdd => exact half_masked encCR_and rfl rfl
  case cFsdsp | cSdsp => exact half_masked (half_and_id16 (fields_encCSdsp _ _ _ _).1) rfl rfl
  case cSwsp | cFswsp => exact half_masked (half_and_id16 (fields_encCSwsp _ _ _ _).1) rfl rfl

end Sys2Proof.Machine
end

section
/-! SUPPORT. A compressed instruction executes as its expansion (O55): both are one shared operation on the same operands,
with length 2 and with length 4. -/

namespace Sys2Proof.Machine

open Sys2Proof.Spec

/-! ## A shared operation, with length 2 and with length 4 -/

/-- t is what a 2-byte instruction leaves in s where its expansion leaves u (R201). -/
def LeavesAs (s t u : State) : Prop :=
  (u.trapCall = none → (t.pc.toNat : Int) = seqPc s 2 ∧ t = { u with pc := t.pc }) ∧ (u.trapCall ≠ none → t = u)

theorem leavesAs_raise (s : State) (c : Cause) (tval : Word) : LeavesAs s (s.raise c tval) (s.raise c tval) :=
  ⟨fun h => absurd ((s.raise_trapCall c tval).symm.trans h) (Option.some_ne_none _), fun _ => rfl⟩

/-- The default advance, after changes that leave the pc and call no trap. -/
theorem leavesAs_advance {s u : State} (hpc : u.pc = s.pc) (hcfg : u.cfg = s.cfg) (hu : u.trapCall = none) :
    LeavesAs s (u.advance 2) (u.advance 4) :=
  ⟨fun _ => ⟨by rw [State.advance_pc_congr hpc hcfg, advance_pc_eq_seqPc], rfl⟩, fun h => absurd hu h⟩

theorem leavesAs_load {s : State} {w n : Nat} (a : BitVec w) {k k' : BitVec (8 * n) → State}
    (hk : ∀ v, LeavesAs s (k v) (k' v)) : LeavesAs s (s.load a n k) (s.load a n k') := by
  unfold State.load
  split
  · exact leavesAs_raise s _ _
  · split
    · exact leavesAs_raise s _ _
    · exact hk _

section
variable {s : State} (hs : s.trapCall = none)
include hs

theorem leavesAs_result (rd : Reg) (v : BitVec s.w) : LeavesAs s (s.result 2 rd v) (s.result 4 rd v) :=
  leavesAs_advance (s.wrX_pc rd v) (s.wrX_cfg rd v) ((s.wrX_trapCall rd v).trans hs)

theorem leavesAs_store {w n : Nat} (a : BitVec w) (v : BitVec (8 * n)) :
    LeavesAs s (s.store 2 a n v) (s.store 4 a n v) := by
  unfold State.store
  split
  · exact leavesAs_raise s _ _
  · split
    · exact leavesAs_raise s _ _
    · next t ht =>
      obtain ⟨hcfg, -, -, -, hpc, -, -, -, -, -, -, -, -, -, htrap, -⟩ := State.memWrite_fields ht
      exact leavesAs_advance hpc hcfg (htrap.trans hs)

end

/-! ## Two instructions that make the same operation -/

/-- j does in s what i does, the next pc apart. -/
def ExecutesAs (s : State) (i j : Instr) : Prop :=
  ∃ t u, exec i s = .next t ∧ exec j s = .next u ∧ LeavesAs s t u

section
variable {s : State} {i j : Instr} {base rd : Reg} {off off' : Int} {n : Nat} (hs : s.trapCall = none)
include hs

theorem executesAs_of_result {v v' : BitVec s.w} (hi : exec i s = .next (s.result 2 rd v))
    (hj : exec j s = .next (s.result 4 rd v')) (hv : v' = v) : ExecutesAs s i j :=
  ⟨_, _, hi, hj, hv ▸ leavesAs_result hs rd v⟩

variable (hi : Live i s) (hj : Live j s) (hoff : off' = off)
include hi hj hoff

theorem executesAs_of_isLoad {signed : Bool} (h : IsLoad ⟨i, base, off, n, 2⟩ rd signed)
    (h' : IsLoad ⟨j, base, off', n, 4⟩ rd signed) : ExecutesAs s i j := by
  subst hoff
  exact ⟨_, _, exec_of_isLoad h hi, exec_of_isLoad h' hj, leavesAs_load _ fun _ => leavesAs_result hs rd _⟩

theorem executesAs_of_isFpLoad (h : IsFpLoad ⟨i, base, off, n, 2⟩ rd) (h' : IsFpLoad ⟨j, base, off', n, 4⟩ rd) :
    ExecutesAs s i j := by
  subst hoff
  exact ⟨_, _, exec_of_isFpLoad h hi, exec_of_isFpLoad h' hj, leavesAs_load _ fun _ => leavesAs_advance rfl rfl hs⟩

theorem executesAs_of_isStore {v : Int} (h : IsStore s ⟨i, base, off, n, 2⟩ v)
    (h' : IsStore s ⟨j, base, off', n, 4⟩ v) : ExecutesAs s i j := by
  subst hoff
  exact ⟨_, _, exec_of_isStore h hi, exec_of_isStore h' hj, leavesAs_store hs _ _⟩

end

/-! ## Immediates of expansions -/

/-- A zero-extended immediate of a compressed instruction, in the 12 bits of its expansion's. -/
theorem toInt_ofNat_mul {m k : Nat} (u : BitVec m) (h : k * (2 ^ m - 1) < 2 ^ 11) :
    (BitVec.ofNat 12 (k * u.toNat)).toInt = k * u.toNat := by
  have hlt : k * u.toNat < 2 ^ 11 := Nat.lt_of_le_of_lt (Nat.mul_le_mul_left k (Nat.le_sub_one_of_lt u.isLt)) h
  rw [← BitVec.ofInt_natCast, BitVec.toInt_ofInt_eq_self (by decide) (by omega) (by omega), Int.natCast_mul]

theorem imm12_ofNat_mul (w : Nat) {m k : Nat} (u : BitVec m) (h : k * (2 ^ m - 1) < 2 ^ 11) :
    imm12 w (BitVec.ofNat 12 (k * u.toNat)) = BitVec.ofInt w (k * u.toNat) := by
  rw [imm12_eq_ofInt, toInt_ofNat_mul u h]

theorem imm12_signExtend (w : Nat) (imm : BitVec 6) : imm12 w (imm.signExtend 12) = imm6 w imm := by
  rw [imm12_eq_ofInt, BitVec.toInt_signExtend_of_le (by decide), imm6_eq_ofInt]

theorem imm12_ofInt_mul_sixteen (w : Nat) (imm : BitVec 6) :
    imm12 w (BitVec.ofInt 12 (16 * imm.toInt)) = imm16sp w imm := by
  have hlo := imm.le_toInt
  have hhi := imm.toInt_lt
  rw [imm12_eq_ofInt, BitVec.toInt_ofInt_eq_self (by decide) (by omega) (by omega), imm16sp_eq_ofInt]

theorem immU_signExtend (w : Nat) (imm : BitVec 6) : immU w (imm.signExtend 20) = immCLui w imm := by
  rw [immU_eq_ofInt, BitVec.toInt_signExtend_of_le (by decide), immCLui_eq_ofInt]

/-! ## Expansions -/

/-- The expansion of an instruction the configuration has is one it has too: its module is the base's, or the F or D module
that the compressed row asks for beside C. -/
theorem live_of_expands {s : State} {i j : Instr} (h : Expands i j) (hl : Live i s) : Live j s := by
  obtain ⟨-, he⟩ := hl
  obtain ⟨hx, hext, hsh⟩ := (enabled_iff _ _).1 he
  suffices hj : j.wf = true ∧ (j.row.xlen = none ∨ j.row.xlen = some s.cfg.xlen) ∧ s.cfg.extOn j.row.ext = true ∧
      j.shamtOk s.cfg.xlen = true from ⟨hj.1, (enabled_iff _ _).2 hj.2⟩
  cases h with
  | addi4spn | nop | addi | li | addi16sp | lui | andi | sub | xor | or | and | mv | add | lw | sw | lwsp | swsp =>
    exact ⟨rfl, .inl rfl, rfl, rfl⟩
  | srli | srai | slli => exact ⟨rfl, .inl rfl, rfl, hsh⟩
  | addiw | addw | subw | ld | sd | ldsp | sdsp => exact ⟨rfl, hx, rfl, rfl⟩
  | flw | fsw | flwsp | fswsp | fld | fsd | fldsp | fsdsp =>
    exact ⟨rfl, .inl rfl, (Bool.and_eq_true_iff.1 hext).2, rfl⟩

theorem executesAs_of_expands {s : State} {i j : Instr} (h : Expands i j) (hl : Live i s) (hs : s.trapCall = none) :
    ExecutesAs s i j := by
  have hlj := live_of_expands h hl
  cases h with
  | addi4spn rd imm =>
    rw [← creg_eq_reg3]
    exact executesAs_of_result hs (exec_of_live hl rfl) rfl
      (congrArg _ ((imm12_ofNat_mul _ imm (by decide)).trans (uimm4spn_eq_ofInt _ imm).symm))
  | nop imm | addi _ imm | li _ imm =>
    exact executesAs_of_result hs (exec_of_live hl rfl) rfl (congrArg _ (imm12_signExtend _ imm))
  | addiw rd imm =>
    exact executesAs_of_result hs (exec_of_live hl rfl) (exec_of_live hlj rfl) (by rw [imm12_signExtend])
  | addi16sp imm =>
    exact executesAs_of_result hs (exec_of_live hl rfl) rfl (congrArg _ (imm12_ofInt_mul_sixteen _ imm))
  | lui _ imm => exact executesAs_of_result hs (exec_of_live hl rfl) rfl (immU_signExtend _ imm)
  | andi _ imm =>
    simp only [← creg_eq_reg3]
    exact executesAs_of_result hs (exec_of_live hl rfl) rfl (congrArg _ (imm12_signExtend _ imm))
  | mv | add => exact executesAs_of_result hs (exec_of_live hl rfl) rfl rfl
  | sub | xor | or | and =>
    simp only [← creg_eq_reg3]
    exact executesAs_of_result hs (exec_of_live hl rfl) rfl rfl
  | slli => exact executesAs_of_result hs (exec_of_live hl rfl) (exec_of_live hlj rfl) rfl
  | srli | srai | addw | subw =>
    simp only [← creg_eq_reg3] at hlj ⊢
    exact executesAs_of_result hs (exec_of_live hl rfl) (exec_of_live hlj rfl) rfl
  | lw _ _ u => exact executesAs_of_isLoad hs hl hlj (toInt_ofNat_mul u (by decide)) (.cLw ..) (.lw ..)
  | ld _ _ u => exact executesAs_of_isLoad hs hl hlj (toInt_ofNat_mul u (by decide)) (.cLd ..) (.ld ..)
  | lwsp _ u => exact executesAs_of_isLoad hs hl hlj (toInt_ofNat_mul u (by decide)) (.cLwsp ..) (.lw ..)
  | ldsp _ u => exact executesAs_of_isLoad hs hl hlj (toInt_ofNat_mul u (by decide)) (.cLdsp ..) (.ld ..)
  | flw _ _ u => exact executesAs_of_isFpLoad hs hl hlj (toInt_ofNat_mul u (by decide)) (.cFlw ..) (.flw ..)
  | fld _ _ u => exact executesAs_of_isFpLoad hs hl hlj (toInt_ofNat_mul u (by decide)) (.cFld ..) (.fld ..)
  | flwsp _ u => exact executesAs_of_isFpLoad hs hl hlj (toInt_ofNat_mul u (by decide)) (.cFlwsp ..) (.flw ..)
  | fldsp _ u => exact executesAs_of_isFpLoad hs hl hlj (toInt_ofNat_mul u (by decide)) (.cFldsp ..) (.fld ..)
  | sw _ _ u => exact executesAs_of_isStore hs hl hlj (toInt_ofNat_mul u (by decide)) (.cSw ..) (.sw ..)
  | sd _ _ u => exact executesAs_of_isStore hs hl hlj (toInt_ofNat_mul u (by decide)) (.cSd ..) (.sd ..)
  | swsp _ u => exact executesAs_of_isStore hs hl hlj (toInt_ofNat_mul u (by decide)) (.cSwsp ..) (.sw ..)
  | sdsp _ u => exact executesAs_of_isStore hs hl hlj (toInt_ofNat_mul u (by decide)) (.cSdsp ..) (.sd ..)
  | fsw _ _ u => exact executesAs_of_isStore hs hl hlj (toInt_ofNat_mul u (by decide)) (.cFsw ..) (.fsw ..)
  | fsd _ _ u => exact executesAs_of_isStore hs hl hlj (toInt_ofNat_mul u (by decide)) (.cFsd ..) (.fsd ..)
  | fswsp _ u => exact executesAs_of_isStore hs hl hlj (toInt_ofNat_mul u (by decide)) (.cFswsp ..) (.fsw ..)
  | fsdsp _ u => exact executesAs_of_isStore hs hl hlj (toInt_ofNat_mul u (by decide)) (.cFsdsp ..) (.fsd ..)

/-- Settles O55: an instruction and its expansion make one operation on the same operands. -/
theorem compressedExecutesItsExpansion : Obligations.CompressedExecutesItsExpansion :=
  fun _ _ _ h hl hs => executesAs_of_expands h hl hs

end Sys2Proof.Machine
end
